-- ==== Sys2Proof/Word.lean ====
section
/-!
DEFINITION. The widths of the block (00_scope.md R7, R8): bytes, payload words, command and response words.
-/

namespace Sys2Proof

/-- A byte, 8 bits (R7, R8). -/
abbrev Byte := BitVec 8

/-- A payload word or a checksum, 16 bits (R7, R8). -/
abbrev Word := BitVec 16

/-- A command word `CW`, 32 bits (30_encoding.md R60). -/
abbrev CommandWord := BitVec 32

/-- A response word `RW = {ST[7:0], DATA[23:0]}`, 32 bits (30_encoding.md R63). -/
abbrev ResponseWord := BitVec 32

/-- The `DATA` field of a response word, 24 bits (R63). -/
abbrev Data := BitVec 24

end Sys2Proof
end

