-- ==== Sys2Proof/Syntax.lean ====
section
/-!
DEFINITION. The commands: one constructor per row of spec/opcode_table.json (30_encoding.md R65).
-/

namespace Sys2Proof

/-- The layout ids `L` that name a field map (30_encoding.md R62): 0 voltage, 1 temp, 2 Current/SOC. -/
inductive LayoutId where
  | volt
  | temp
  | soc
  deriving DecidableEq, Repr

/-- `NF(L)`, the number of fields of a layout (R65; 43_field.md R160, R161, R162). -/
def LayoutId.fieldCount : LayoutId → Nat
  | .volt => 7
  | .temp => 5
  | .soc => 7

/-- `WC(L)`, the payload word count of a layout (43_field.md R160, R161, R162). -/
def LayoutId.wordCount : LayoutId → Nat
  | .volt => 9
  | .temp => 7
  | .soc => 12

/-- A command. Operands are the fields of R62, each at the width its format gives it. -/
inductive Instr where
  /-- NOP (44_system.md R190). -/
  | nop
  /-- CRC_INIT (41_crc.md R107). -/
  | crcInit
  /-- CRC_BYTE b (R108). -/
  | crcByte (b : Byte)
  /-- CRC_READ (R109). -/
  | crcRead
  /-- TX_BEGIN a (42_frame.md R125). -/
  | txBegin (a : Byte)
  /-- TX_BYTE b (R126). -/
  | txByte (b : Byte)
  /-- TX_END (R127). -/
  | txEnd
  /-- TX_READ i (R128). -/
  | txRead (i : Byte)
  /-- TX_LEN (R129). -/
  | txLen
  /-- RX_BEGIN e (R130). -/
  | rxBegin (e : Byte)
  /-- RX_BYTE b (R131). -/
  | rxByte (b : Byte)
  /-- RX_CHECK (R132). -/
  | rxCheck
  /-- RX_READ i (R133). -/
  | rxRead (i : Byte)
  /-- RX_LEN (R134). -/
  | rxLen
  /-- WORD i (43_field.md R156). -/
  | word (i : Byte)
  /-- FIELD i, s, k: `s` selects sign recovery, `k` is the decimal exponent (R157). -/
  | field (i : Byte) (s : Bool) (k : BitVec 4)
  /-- SIGN v (R158). -/
  | sign (v : Word)
  /-- BAL i, c: `c` is the cell index 0..3 (R159). -/
  | bal (i : Byte) (c : BitVec 2)
  /-- LAYOUT l, j (R163). -/
  | layout (l : LayoutId) (j : Byte)
  /-- PLEN (R164). -/
  | plen
  /-- STATUS (44_system.md R191). -/
  | status
  /-- SRST (R192). -/
  | srst
  deriving DecidableEq, Repr

end Sys2Proof
end

