-- ==== Sys2Proof/WellFormed.lean ====
section
/-!
DEFINITION. The one check on a command that its operand types do not already carry: the field index of LAYOUT
(30_encoding.md R62, R66 case 3). The other operands are legal at every value of their width.
-/

namespace Sys2Proof

/-- `J < NF(L)` for LAYOUT; every other command is well formed at every operand. -/
def Instr.wellFormed : Instr → Bool
  | .layout l j => decide (j.toNat < l.fieldCount)
  | .nop | .crcInit | .crcByte _ | .crcRead => true
  | .txBegin _ | .txByte _ | .txEnd | .txRead _ | .txLen => true
  | .rxBegin _ | .rxByte _ | .rxCheck | .rxRead _ | .rxLen => true
  | .word _ | .field _ _ _ | .sign _ | .bal _ _ | .plen => true
  | .status | .srst => true

/-- A command that a command word can name. -/
abbrev Instr.WellFormed (i : Instr) : Prop := i.wellFormed = true

end Sys2Proof
end

