-- ==== Sys2Proof/Decode.lean ====
section
/-!
DEFINITION. The decoder and the encoder of command words, from 30_encoding.md R60 to R67.
-/

namespace Sys2Proof

/-- The three ways a command word is ILLEGAL, as R66 numbers them. -/
inductive Illegal where
  /-- (1) The opcode is in no row of R65's table. -/
  | opcode
  /-- (2) A field the format marks 0 is not zero. -/
  | field
  /-- (3) A LAYOUT with `L > 2` or `J >= NF(L)`. -/
  | layout
  deriving DecidableEq, Repr

/-- `OP = CW[31:24]` (R60). -/
def opField (cw : CommandWord) : Byte := cw.extractLsb' 24 8

/-- `A = CW[23:16]` (R60). -/
def aField (cw : CommandWord) : Byte := cw.extractLsb' 16 8

/-- `B = CW[15:0]` (R60). -/
def bField (cw : CommandWord) : BitVec 16 := cw.extractLsb' 0 16

/-- The layout a byte names (R62); any other byte names none. -/
def layoutOfByte (a : Byte) : Option LayoutId :=
  if a = 0 then some .volt else if a = 1 then some .temp else if a = 2 then some .soc else none

/-- The byte that names a layout (R62). -/
def LayoutId.code : LayoutId → Byte
  | .volt => 0
  | .temp => 1
  | .soc => 2

/-- A row of R65's table: `match` (here `code`), `mask`, and the command its operands give, none where an operand value is
out of the row's range (LAYOUT alone). -/
structure OpRow where
  mnemonic : String
  code : CommandWord
  mask : CommandWord
  command : Byte → BitVec 16 → Option Instr

/-- R65's rows of the CRC unit, and NOP. -/
def crcRows : List OpRow := [
  ⟨"NOP", 0x00000000, 0xFFFFFFFF, fun _ _ => some .nop⟩,
  ⟨"CRC_INIT", 0x01000000, 0xFFFFFFFF, fun _ _ => some .crcInit⟩,
  ⟨"CRC_BYTE", 0x02000000, 0xFF00FFFF, fun a _ => some (.crcByte a)⟩,
  ⟨"CRC_READ", 0x03000000, 0xFFFFFFFF, fun _ _ => some .crcRead⟩]

/-- R65's rows of the transmit commands. -/
def txRows : List OpRow := [
  ⟨"TX_BEGIN", 0x10000000, 0xFF00FFFF, fun a _ => some (.txBegin a)⟩,
  ⟨"TX_BYTE", 0x11000000, 0xFF00FFFF, fun a _ => some (.txByte a)⟩,
  ⟨"TX_END", 0x12000000, 0xFFFFFFFF, fun _ _ => some .txEnd⟩,
  ⟨"TX_READ", 0x13000000, 0xFF00FFFF, fun a _ => some (.txRead a)⟩,
  ⟨"TX_LEN", 0x14000000, 0xFFFFFFFF, fun _ _ => some .txLen⟩]

/-- R65's rows of the receive commands. -/
def rxRows : List OpRow := [
  ⟨"RX_BEGIN", 0x20000000, 0xFF00FFFF, fun a _ => some (.rxBegin a)⟩,
  ⟨"RX_BYTE", 0x21000000, 0xFF00FFFF, fun a _ => some (.rxByte a)⟩,
  ⟨"RX_CHECK", 0x22000000, 0xFFFFFFFF, fun _ _ => some .rxCheck⟩,
  ⟨"RX_READ", 0x23000000, 0xFF00FFFF, fun a _ => some (.rxRead a)⟩,
  ⟨"RX_LEN", 0x24000000, 0xFFFFFFFF, fun _ _ => some .rxLen⟩]

/-- LAYOUT's value constraint (R65): `L <= 2` and `J < NF(L)`. -/
def layoutCommand (a : Byte) (b : BitVec 16) : Option Instr :=
  match layoutOfByte a with
  | none => none
  | some l => if (b.extractLsb' 0 8).toNat < l.fieldCount then some (.layout l (b.extractLsb' 0 8)) else none

/-- R65's rows of the field decoder; the operand fields are those of R61's formats A8, AF, B16, AC, AJ and N. -/
def fieldRows : List OpRow := [
  ⟨"WORD", 0x30000000, 0xFF00FFFF, fun a _ => some (.word a)⟩,
  ⟨"FIELD", 0x31000000, 0xFF00FFE0, fun a b => some (.field a (b.getLsbD 4) (b.extractLsb' 0 4))⟩,
  ⟨"SIGN", 0x32000000, 0xFFFF0000, fun _ b => some (.sign b)⟩,
  ⟨"BAL", 0x33000000, 0xFF00FFFC, fun a b => some (.bal a (b.extractLsb' 0 2))⟩,
  ⟨"LAYOUT", 0x34000000, 0xFF00FF00, layoutCommand⟩,
  ⟨"PLEN", 0x35000000, 0xFFFFFFFF, fun _ _ => some .plen⟩]

/-- R65's rows of the system commands. -/
def systemRows : List OpRow := [
  ⟨"STATUS", 0xF0000000, 0xFFFFFFFF, fun _ _ => some .status⟩,
  ⟨"SRST", 0xFF000000, 0xFFFFFFFF, fun _ _ => some .srst⟩]

/-- R65's table. "The table is complete: no other value of OP names a command." -/
def opTable : List OpRow := crcRows ++ txRows ++ rxRows ++ fieldRows ++ systemRows

/-- R67's `decodeCW : u32 → Command ⊕ Illegal`, total on every word. -/
def decodeCW (cw : CommandWord) : Except Illegal Instr :=
  match opTable.find? (fun r => r.code == opField cw ++ 0#24) with
  | none => .error .opcode
  | some row =>
    if cw &&& row.mask ≠ row.code then .error .field
    else
      match row.command (aField cw) (bField cw) with
      | none => .error .layout
      | some i => .ok i

/-- The host's reading of a table word: bit 0 of `w` is bit 0 of the one 32-bit command word, and the bits above `nbits`
are zero. -/
def tableWord (nbits w : Nat) : CommandWord := BitVec.ofNat 32 (w % 2 ^ nbits)

/-- The command the decoder reads from a word of spec/opcode_table.json, none where it refuses. -/
def decodeTableWord (nbits w : Nat) : Option Instr :=
  match decodeCW (tableWord nbits w) with
  | .ok i => some i
  | .error _ => none

/-- A command's opcode (R65). -/
def Instr.opcode : Instr → Byte
  | .nop => 0x00
  | .crcInit => 0x01
  | .crcByte _ => 0x02
  | .crcRead => 0x03
  | .txBegin _ => 0x10
  | .txByte _ => 0x11
  | .txEnd => 0x12
  | .txRead _ => 0x13
  | .txLen => 0x14
  | .rxBegin _ => 0x20
  | .rxByte _ => 0x21
  | .rxCheck => 0x22
  | .rxRead _ => 0x23
  | .rxLen => 0x24
  | .word _ => 0x30
  | .field _ _ _ => 0x31
  | .sign _ => 0x32
  | .bal _ _ => 0x33
  | .layout _ _ => 0x34
  | .plen => 0x35
  | .status => 0xF0
  | .srst => 0xFF

/-- A command's operand `A`: 0 where the format has none (R61). -/
def Instr.operandA : Instr → Byte
  | .crcByte b => b
  | .txBegin a => a
  | .txByte b => b
  | .txRead i => i
  | .rxBegin e => e
  | .rxByte b => b
  | .rxRead i => i
  | .word i => i
  | .field i _ _ => i
  | .bal i _ => i
  | .layout l _ => l.code
  | .nop | .crcInit | .crcRead | .txEnd | .txLen | .rxCheck | .rxLen | .sign _ | .plen | .status | .srst => 0

/-- A command's operand `B`: `S = B[4]` and `K = B[3:0]` of FIELD, `C = B[1:0]` of BAL, `J = B[7:0]` of LAYOUT, all of B for
SIGN, 0 elsewhere (R61). -/
def Instr.operandB : Instr → BitVec 16
  | .field _ s k => 0#11 ++ BitVec.ofBool s ++ k
  | .sign v => v
  | .bal _ c => 0#14 ++ c
  | .layout _ j => 0#8 ++ j
  | .nop | .crcInit | .crcByte _ | .crcRead | .txBegin _ | .txByte _ | .txEnd | .txRead _ | .txLen | .rxBegin _
  | .rxByte _ | .rxCheck | .rxRead _ | .rxLen | .word _ | .plen | .status | .srst => 0

/-- The command word of a command: `{OP, A, B}` (R60). -/
def encode (i : Instr) : CommandWord := i.opcode ++ i.operandA ++ i.operandB

end Sys2Proof
end

