-- ==== Sys2Proof/Config.lean ====
section
/-!
DEFINITION. What is fixed when a block is made: the three parameters of 00_scope.md R7.
-/

namespace Sys2Proof

/-- The parameter `SIGN_CONV`: the boundary of sign recovery (R7, 43_field.md R150). -/
inductive SignConv where
  /-- `value > 32768` is negative (the default). -/
  | literal
  /-- `value >= 32768` is negative: two's complement. -/
  | twos
  deriving DecidableEq, Repr

/-- The three parameters of R7. The spec makes them constants of the block, not state, and no command changes them. -/
structure Params where
  /-- `TX_CAP`: the capacity in bytes of the transmit buffer, trailer included. -/
  txCap : Nat
  /-- `SIGN_CONV`. -/
  signConv : SignConv
  /-- `TERM_CHECK`: whether RX_CHECK also requires the terminator bytes. -/
  termCheck : Bool
  deriving DecidableEq, Repr

/-- R7's default of each parameter. -/
def Params.default : Params where
  txCap := 255
  signConv := .literal
  termCheck := false

/-- R7's range: "integer 5 ≤ TX_CAP ≤ 255". The other two parameters have no illegal value. -/
abbrev Params.wf (p : Params) : Prop := 5 ≤ p.txCap ∧ p.txCap ≤ 255

end Sys2Proof
end

