-- ==== Sys2Proof/Machine/State.lean ====
section
/-!
DEFINITION. The state of the block: the components of 10_state.md R20, the parameters of 00_scope.md R7, and the command
port. Reset is R35.
-/

namespace Sys2Proof.Machine

/-- The status codes of 60_exceptions.md R200. `ok` also stands for LASTERR = 0, "none has failed" (10_state.md R30). -/
inductive Status where
  | ok
  | illegal
  | seq
  | full
  | noPayload
  | index
  | layout
  deriving DecidableEq, Repr

/-- `TXST` (10_state.md R23). The value 3 is never held, so it has no constructor. -/
inductive TxState where
  /-- No frame has been begun since reset. -/
  | idle
  /-- OPEN: a frame has been begun and not finished. -/
  | opened
  /-- The last frame begun has its trailer. -/
  | done
  deriving DecidableEq, Repr

/-- `RXST` (10_state.md R26). -/
inductive RxState where
  /-- No RX_BEGIN since reset. -/
  | idle
  /-- OPEN: RX_BEGIN has been issued. -/
  | opened
  deriving DecidableEq, Repr

/-- The block's state. The spec's names stand in capitals. TXLEN and RXLEN are the lengths of `txb` and `rxb` (R20: "equal to
len(TXB)", "equal to len(RXB)"; DEDUCED, log entry 6). There is no byte-addressed memory (DEDUCED, log entry 7). -/
structure State where
  /-- `CRC`, the checksum accumulator (R21). -/
  crc : Word
  /-- `TXB`, the outbound frame, exactly its TXLEN readable bytes (R22). -/
  txb : List Byte
  /-- `TXST` (R23). -/
  txst : TxState
  /-- `RXB`, the inbound bytes, exactly the RXLEN readable ones (R24). -/
  rxb : List Byte
  /-- `EXPLEN`, the expected response length (R25). -/
  explen : Fin 256
  /-- `RXST` (R26). -/
  rxst : RxState
  /-- `VALID` (R27). -/
  valid : Bool
  /-- `PCOUNT`, the number of payload words (R28). -/
  pcount : Fin 125
  /-- `PW`, the decoded payload (R29). -/
  pw : Vector Word 124
  /-- `LASTERR` (R30). -/
  lasterr : Status
  /-- `ERRSEEN`, sticky (R31). -/
  errseen : Bool
  /-- The parameters of this block (00_scope.md R7): constants, which no step changes (DESIGN CHOICE, log entry 4). -/
  params : Params
  /-- The command port: the words the host has issued and the block has not performed, oldest first (DESIGN CHOICE, log
  entry 1). -/
  commands : List CommandWord
  /-- The response word of the last command performed, none before the first (DESIGN CHOICE, log entry 2). -/
  response : Option ResponseWord
  deriving DecidableEq, Repr

/-- Why a step could stop with a fault: it has no constructor, because no command of the block stops it. A failing command is an
ordinary response (60_exceptions.md R205, R206). -/
inductive Fault where
  deriving DecidableEq, Repr

/-- Why a step could refuse. -/
inductive Refusal where
  /-- Raised only by an arm of `exec` whose command has no meaning yet; no arm does so. Safe: the model would stop where the
  block goes on. -/
  | notModelled (mnemonic : String)
  deriving DecidableEq, Repr

/-- R35's reset values, for a block made with the parameters `p`. Nothing is on the port. PW, "unspecified; unobservable", is all
zero (DESIGN CHOICE, log entry 5). -/
def State.resetWith (p : Params) : State where
  crc := 0xFFFF
  txb := []
  txst := .idle
  rxb := []
  explen := 0
  rxst := .idle
  valid := false
  pcount := 0
  pw := Vector.replicate 124 0
  lasterr := .ok
  errseen := false
  params := p
  commands := []
  response := none

/-- The block with R7's default parameters right after reset (R35, 70_reset_and_hazards.md R230). Power-on in the middle
of a run is no step (DESIGN CHOICE, log entry 11). -/
def State.reset : State := State.resetWith Params.default

end Sys2Proof.Machine
end

