-- ==== Sys2Proof/Machine/Flags.lean ====
section
/-!
DEFINITION. Codes and images: the status codes (60_exceptions.md R200), the response word (30_encoding.md R63, R64) and the
STATUS image (10_state.md R32).
-/

namespace Sys2Proof.Machine

/-- A status code as ST carries it (R200). -/
def Status.code : Status → BitVec 8
  | .ok => 0x00
  | .illegal => 0x01
  | .seq => 0x02
  | .full => 0x03
  | .noPayload => 0x04
  | .index => 0x05
  | .layout => 0x06

/-- A status code as the 4-bit LASTERR carries it (10_state.md R20, R30). -/
def Status.nibble (st : Status) : BitVec 4 := st.code.setWidth 4

/-- `TXST` as two bits (10_state.md R23). -/
def TxState.code : TxState → BitVec 2
  | .idle => 0
  | .opened => 1
  | .done => 2

/-- `RXST` as one bit (10_state.md R26). -/
def RxState.code : RxState → BitVec 1
  | .idle => 0
  | .opened => 1

/-- `RW = {ST[7:0], DATA[23:0]}` (30_encoding.md R63). -/
def responseWord (st : Status) (d : Data) : ResponseWord := st.code ++ d

/-- `ST = RW[31:24]` (R63). -/
def stField (rw : ResponseWord) : BitVec 8 := rw.extractLsb' 24 8

/-- `DATA = RW[23:0]` (R63). -/
def dataField (rw : ResponseWord) : Data := rw.extractLsb' 0 24

/-- The RAW8 shape of DATA: a byte, here given as a count, zero-extended (R64). -/
def raw8 (n : Nat) : Data := (BitVec.ofNat 8 n).setWidth 24

/-- The RAW16 shape of DATA: a word zero-extended (R64). -/
def raw16 (w : Word) : Data := w.setWidth 24

/-- `{VALID, 0[14:0], zext_8(PCOUNT)}`: the DATA of RX_CHECK and PLEN (42_frame.md R132, 43_field.md R164). -/
def payloadImage (valid : Bool) (pcount : Nat) : Data :=
  BitVec.ofBool valid ++ 0#15 ++ BitVec.ofNat 8 pcount

/-- The SIGNCONV bit: 0 = LITERAL, 1 = TWOS (10_state.md R32). -/
def signConvBit : SignConv → BitVec 1
  | .literal => 0
  | .twos => 1

/-- The STATUS image `{0[13:0], SIGNCONV, ERRSEEN, LASTERR[3:0], RXST, TXST[1:0], VALID}` (10_state.md R32). -/
def statusImage (s : State) : Data :=
  0#14 ++ signConvBit s.params.signConv ++ BitVec.ofBool s.errseen ++ s.lasterr.nibble ++ s.rxst.code ++ s.txst.code ++
    BitVec.ofBool s.valid

end Sys2Proof.Machine
end

