-- ==== Sys2Proof/Machine/Checksum.lean ====
section
/-!
DEFINITION. The checksum function of 41_crc.md section 1: the reflected form of R101 and R102, which the commands use, and the
form of R103, which is written from the parameters of R100.
-/

namespace Sys2Proof.Machine

/-- One of the eight turns of R101's loop. The constant 0xA001 is 0x8005 with its 16 bits reversed. -/
def crcShift (c : Word) : Word :=
  if c.getLsbD 0 then (c >>> 1) ^^^ 0xA001#16 else c >>> 1

/-- R101's `crc_update(c, b)`: fold one byte into the register. The spec supplies this form from general knowledge (UNVERIFIED
by the source, log entry 8). -/
def crcUpdate (c : Word) (b : Byte) : Word :=
  Nat.repeat crcShift 8 (c ^^^ b.setWidth 16)

/-- R102's `crc16`: start from 0xFFFF, every byte in index order, no final XOR. -/
def crc16 (s : List Byte) : Word := s.foldl crcUpdate 0xFFFF#16

/-- One of the eight turns of R103's `g`. -/
def crcShiftMsb (c : Word) : Word :=
  if c.getLsbD 15 then (c <<< 1) ^^^ 0x8005#16 else c <<< 1

/-- R103's `g(c, b)`: the register takes reflected input from its top. -/
def crcUpdateMsb (c : Word) (b : Byte) : Word :=
  Nat.repeat crcShiftMsb 8 (c ^^^ (b.reverse.setWidth 16 <<< 8))

/-- R103's definition of the checksum: reflected input, reflected output. -/
def crc16Msb (s : List Byte) : Word := (s.foldl crcUpdateMsb 0xFFFF#16).reverse

/-- The low byte `c[7:0]` of a word. -/
def lowByte (c : Word) : Byte := c.extractLsb' 0 8

/-- The high byte `c[15:8]` of a word. -/
def highByte (c : Word) : Byte := c.extractLsb' 8 8

end Sys2Proof.Machine
end

