-- ==== Sys2Proof/Machine/Codec.lean ====
section
/-!
DEFINITION. The pure functions of the frame codec: `encode` (42_frame.md R120) and `decode` (R123), with the byte orders of
20_memory.md R42 and R43.
-/

namespace Sys2Proof.Machine

/-- The trailer of a frame with checksum `c`: the checksum low byte first (R42), then `0x0D 0x0A`. -/
def trailer (c : Word) : List Byte := [lowByte c, highByte c, 0x0D, 0x0A]

/-- The bytes `p` with the trailer that their checksum gives. -/
def withTrailer (p : List Byte) : List Byte := p ++ trailer (crc16 p)

/-- R120's `encode(a, body)`: a request frame. -/
def encodeFrame (a : Byte) (body : List Byte) : List Byte := withTrailer (a :: body)

/-- The element `f[i]` of a byte sequence. Every rule that names one has checked the length first; beyond the end the model reads
0, and no rule's result depends on it (DESIGN CHOICE, log entry 10). -/
def byteAt (f : List Byte) (i : Nat) : Byte := f.getD i 0

/-- `{f[i], f[i+1]}`: a big-endian word, high byte first (R43). -/
def bigEndianAt (f : List Byte) (i : Nat) : Word := byteAt f i ++ byteAt f (i + 1)

/-- The payload words of a frame: word i is `{f[3+2i], f[4+2i]}` (R43). -/
def payloadWords (f : List Byte) (n : Nat) : List Word := (List.range n).map fun i => bigEndianAt f (3 + 2 * i)

/-- R123's terminator test, made only when `TERM_CHECK` is true. -/
def terminatorOk (termCheck : Bool) (f : List Byte) : Bool :=
  !termCheck || (byteAt f (f.length - 2) == 0x0D && byteAt f (f.length - 1) == 0x0A)

/-- R123's checksum test: everything but the last four bytes, against `{f[L-3], f[L-4]}`, little-endian. -/
def checksumOk (f : List Byte) : Bool :=
  crc16 (f.take (f.length - 4)) == byteAt f (f.length - 3) ++ byteAt f (f.length - 4)

/-- R123's `decode(f, e)` under the parameter `TERM_CHECK`: the payload words, or none. -/
def decodeFrame (termCheck : Bool) (f : List Byte) (e : Nat) : Option (List Word) :=
  if f.length ≠ e then none
  else if f.length < 7 then none
  else if (f.length - 7) % 2 ≠ 0 then none
  else if checksumOk f = false then none
  else if terminatorOk termCheck f = false then none
  else some (payloadWords f ((f.length - 7) / 2))

/-- A payload word as its two bytes, high byte first (R43, 42_frame.md R137). -/
def wordBytes (w : Word) : List Byte := [highByte w, lowByte w]

/-- The length of a response frame with n payload words, 7 + 2n (R122). -/
def frameLength (n : Nat) : Nat := 7 + 2 * n

/-- R122's response frame: address, two header bytes, the words big-endian, the trailer. -/
def responseFrame (a h0 h1 : Byte) (ws : List Word) : List Byte :=
  withTrailer ([a, h0, h1] ++ ws.flatMap wordBytes)

end Sys2Proof.Machine
end

