-- ==== Sys2Proof/Machine/Operands.lean ====
section
/-!
DEFINITION. The conversions of the field decoder (43_field.md section 1) and the field maps of its three layouts (section 3).
-/

namespace Sys2Proof.Machine

/-- R150's sign recovery `signed16`, under the parameter `SIGN_CONV`. -/
def signed16 (conv : SignConv) (v : Word) : Int :=
  match conv with
  | .literal => if v.toNat > 32768 then (v.toNat : Int) - 65536 else v.toNat
  | .twos => if v.toNat ≥ 32768 then (v.toNat : Int) - 65536 else v.toNat

/-- `twos_20(M)`: the 20-bit two's-complement pattern of a mantissa (00_scope.md R11). -/
def twos20 (m : Int) : BitVec 20 := BitVec.ofInt 20 m

/-- The FX shape of DATA: `{K[3:0], twos_20(M)}`, which denotes M × 10^(−K) (R151, R152; 30_encoding.md R64). -/
def fx (k : BitVec 4) (m : Int) : BitVec 24 := k ++ twos20 m

/-- The exponent K a reader recovers from an FX value (R152). -/
def fxExponent (d : BitVec 24) : BitVec 4 := d.extractLsb' 20 4

/-- The mantissa M a reader recovers from an FX value, sign-extended from 20 bits (R152). -/
def fxMantissa (d : BitVec 24) : Int := (d.extractLsb' 0 20).toInt

/-- The rational number M × 10^(−K) that an FX value denotes (R151). The block computes no product; this is the reader's side. -/
def fxValue (d : BitVec 24) : Rat := (fxMantissa d : Rat) / 10 ^ (fxExponent d).toNat

/-- R154's balancing flag: the bit 8+c of the word, inverted. -/
def balancing (w : Word) (c : BitVec 2) : Bool := !w.getLsbD (8 + c.toNat)

/-- How a word of the payload becomes DATA: unsigned or sign-recovered with an exponent K, or one balancing flag. -/
inductive FieldKind where
  | unsigned (k : BitVec 4)
  | signed (k : BitVec 4)
  | balance (c : BitVec 2)
  deriving DecidableEq, Repr

/-- The DATA of a word read as a kind (R157, R159, R163). -/
def fieldData (conv : SignConv) (kind : FieldKind) (v : Word) : BitVec 24 :=
  match kind with
  | .unsigned k => fx k v.toNat
  | .signed k => fx k (signed16 conv v)
  | .balance c => (BitVec.ofBool (balancing v c)).setWidth 24

/-- A row of a layout: the field's name in the spec, the payload word it is read from, and its kind. -/
structure LayoutRow where
  name : String
  word : Nat
  kind : FieldKind
  deriving DecidableEq, Repr

/-- Layout 0, "voltage": every field ×0.001 (K = 3), unsigned (R160, R153). -/
def voltRows : List LayoutRow := [
  ⟨"highCellVoltage", 0, .unsigned 3⟩,
  ⟨"lowCellVoltage", 1, .unsigned 3⟩,
  ⟨"moduleUncalibratedVoltage", 2, .unsigned 3⟩,
  ⟨"cellVoltage[0]", 3, .unsigned 3⟩,
  ⟨"cellVoltage[1]", 4, .unsigned 3⟩,
  ⟨"cellVoltage[2]", 5, .unsigned 3⟩,
  ⟨"cellVoltage[3]", 6, .unsigned 3⟩]

/-- Layout 1, "temp": every field ×0.01 (K = 2), signed (R161, R153). -/
def tempRows : List LayoutRow := [
  ⟨"moduleTemperature", 0, .signed 2⟩,
  ⟨"cellTemperature[0]", 1, .signed 2⟩,
  ⟨"cellTemperature[1]", 2, .signed 2⟩,
  ⟨"cellTemperature[2]", 3, .signed 2⟩,
  ⟨"cellTemperature[3]", 4, .signed 2⟩]

/-- Layout 2, "Current"/SOC (R162, R153). -/
def socRows : List LayoutRow := [
  ⟨"stateOfCharge", 0, .unsigned 0⟩,
  ⟨"current", 7, .signed 2⟩,
  ⟨"moduleVoltage", 9, .unsigned 3⟩,
  ⟨"cellBalancing[0]", 6, .balance 0⟩,
  ⟨"cellBalancing[1]", 6, .balance 1⟩,
  ⟨"cellBalancing[2]", 6, .balance 2⟩,
  ⟨"cellBalancing[3]", 6, .balance 3⟩]

/-- The field map of a layout, in the order of J. -/
def layoutRows : LayoutId → List LayoutRow
  | .volt => voltRows
  | .temp => tempRows
  | .soc => socRows

/-- The expected length of a layout's response frame (42_frame.md R138): the host's operand for RX_BEGIN. -/
def layoutFrameLength (l : LayoutId) : Nat := frameLength l.wordCount

/-- Row j of layout l (R163), none where `J >= NF(L)`. -/
def layoutRow (l : LayoutId) (j : Byte) : Option LayoutRow := (layoutRows l)[j.toNat]?

end Sys2Proof.Machine
end

