-- ==== Sys2Proof/Machine/Ops.lean ====
section
/-!
DEFINITION. The named operations the meanings share: the buffers, a good response, a failing one, the payload gate, reset, and
the command port.
-/

namespace Sys2Proof.Machine

/-- What a command answers. -/
abbrev Result := Host.Outcome State Fault Refusal

/-- `TXLEN`, equal to len(TXB) (10_state.md R20). -/
def State.txlen (s : State) : Nat := s.txb.length

/-- `RXLEN`, equal to len(RXB) (10_state.md R20). -/
def State.rxlen (s : State) : Nat := s.rxb.length

/-- `MemRead(TXB, i, 1)` (20_memory.md R40): none at or beyond TXLEN (10_state.md R36). -/
def readTxb (s : State) (i : Nat) : Option Byte := s.txb[i]?

/-- `MemRead(RXB, i, 1)` (R40): none at or beyond RXLEN (R36). -/
def readRxb (s : State) (i : Nat) : Option Byte := s.rxb[i]?

/-- `MemRead(PW, i, 2)` (R40). Every use is behind the gate of 43_field.md R155 or the word count of R163, so the index is
below 124; beyond it the model reads 0 and nothing depends on it (DESIGN CHOICE, log entry 10). -/
def readPw (s : State) (i : Nat) : Word := s.pw.toList.getD i 0

/-- `MemWrite(TXB, TXLEN, ..)`: bytes appended at the current length, and TXLEN with them (R40). -/
def appendTxb (bs : List Byte) (s : State) : State := { s with txb := s.txb ++ bs }

/-- `MemWrite(RXB, RXLEN, 1, b)`: one byte appended at the current length, and RXLEN with it (R40). -/
def appendRxb (b : Byte) (s : State) : State := { s with rxb := s.rxb ++ [b] }

/-- RX_CHECK's latch `for i < len(ws): MemWrite(PW, i, 2, ws[i])`; the words at and beyond len(ws) stay (42_frame.md R132). -/
def latchWords (ws : List Word) (pw : Vector Word 124) : Vector Word 124 :=
  Vector.ofFn fun i => ws.getD i.val pw[i]

/-- `respond(d)`: end the command with status OK and DATA = d (00_scope.md R10). LASTERR and ERRSEEN stay as they are
(60_exceptions.md R202). -/
def respond (d : Data) (s : State) : Result :=
  .next { s with response := some (responseWord .ok d) }

/-- `raise <Error>`: end the command with that status (00_scope.md R10): `LASTERR <- ST; ERRSEEN <- 1`, DATA = 0, and nothing
else changes (60_exceptions.md R201). -/
def raise (st : Status) (s : State) : Result :=
  .next { s with lasterr := st, errseen := true, response := some (responseWord st 0) }

/-- R155's payload gate, in its order: NOPAYLOAD if VALID = 0, then INDEX if i ≥ PCOUNT; none where the word may be read. -/
def gate (s : State) (i : Nat) : Option Status :=
  if s.valid = false then some .noPayload
  else if i ≥ s.pcount.val then some .index
  else none

/-- The shape of WORD, FIELD and BAL: the gate, then DATA computed from the word (R155, R156, R157, R159). -/
def readWordAs (i : Nat) (dataOf : Word → Data) (s : State) : Result :=
  match gate s i with
  | some st => raise st s
  | none => respond (dataOf (readPw s i)) s

/-- Reset: every component to its value in 10_state.md R35. The parameters do not change (70_reset_and_hazards.md R230), and
the port is no component of the block. -/
def resetBlock (s : State) : State :=
  { State.resetWith s.params with commands := s.commands, response := s.response }

/-- Take the oldest command word from the port, none where none is there (20_memory.md R51; log entry 1). -/
def takeCommand (s : State) : Option (CommandWord × State) :=
  match s.commands with
  | [] => none
  | cw :: rest => some (cw, { s with commands := rest })

/-- Put a command word on the port as the next to be performed (log entry 1). -/
def putCommand (cw : CommandWord) (s : State) : State := { s with commands := cw :: s.commands }

/-- A command word that is ILLEGAL, for whichever of R66's reasons: it is refused whatever the state is (30_encoding.md R66,
60_exceptions.md R201, R203). -/
def execIllegal (_why : Illegal) (s : State) : Result := raise .illegal s

/-- No command word is on the port: the block waits and nothing changes (DEDUCED, log entry 3). -/
def idle (s : State) : Result := .next s

end Sys2Proof.Machine
end

