-- ==== Sys2Proof/Machine/Crc.lean ====
section
/-!
DEFINITION. The meanings of the CRC commands (41_crc.md section 2). The frame commands do not share this accumulator (R110).
-/

namespace Sys2Proof.Machine

/-- CRC_INIT (R107): `CRC <- 0xFFFF; respond(zext_24(0xFFFF))`. -/
def execCrcInit (s : State) : Result :=
  respond (raw16 0xFFFF) { s with crc := 0xFFFF }

/-- CRC_BYTE b (R108): `c <- crc_update(CRC, b); CRC <- c; respond(zext_24(c))`. -/
def execCrcByte (b : Byte) (s : State) : Result :=
  let c := crcUpdate s.crc b
  respond (raw16 c) { s with crc := c }

/-- CRC_READ (R109): `respond(zext_24(CRC))`. -/
def execCrcRead (s : State) : Result := respond (raw16 s.crc) s

end Sys2Proof.Machine
end

