-- ==== Sys2Proof/Machine/Field.lean ====
section
/-!
DEFINITION. The meanings of the field commands (43_field.md sections 2 and 3). None of them writes a component but the error
state of a refused one (20_memory.md R49).
-/

namespace Sys2Proof.Machine

/-- WORD i (R156): the gate, then the raw word. -/
def execWord (i : Byte) (s : State) : Result := readWordAs i.toNat raw16 s

/-- FIELD i, s, k (R157): the gate, then the word as an FX value, sign-recovered when `signed` is set; any k is returned as
given. -/
def execField (i : Byte) (signed : Bool) (k : BitVec 4) (s : State) : Result :=
  readWordAs i.toNat (fieldData s.params.signConv (if signed then .signed k else .unsigned k)) s

/-- SIGN v (R158): `respond({0[3:0], twos_20(signed16(v))})`; no payload is needed. -/
def execSign (v : Word) (s : State) : Result :=
  respond (fx 0 (signed16 s.params.signConv v)) s

/-- BAL i, c (R159): the gate, then the balancing flag of cell c. -/
def execBal (i : Byte) (c : BitVec 2) (s : State) : Result :=
  readWordAs i.toNat (fieldData s.params.signConv (.balance c)) s

/-- LAYOUT l, j (R163): ILLEGAL where j names no field (a well-formed command has none such), then NOPAYLOAD, then LAYOUT if
PCOUNT ≠ WC(l), else the field of row j. -/
def execLayout (l : LayoutId) (j : Byte) (s : State) : Result :=
  match layoutRow l j with
  | none => raise .illegal s
  | some row =>
    if s.valid = false then raise .noPayload s
    else if s.pcount.val ≠ l.wordCount then raise .layout s
    else respond (fieldData s.params.signConv row.kind (readPw s row.word)) s

/-- PLEN (R164): `respond({VALID, 0[14:0], zext_8(PCOUNT)})`. -/
def execPlen (s : State) : Result := respond (payloadImage s.valid s.pcount.val) s

end Sys2Proof.Machine
end

