-- ==== Sys2Proof/Machine/Frame.lean ====
section
/-!
DEFINITION. The meanings of the transmit and receive commands (42_frame.md sections 2 and 3).
-/

namespace Sys2Proof.Machine

/-- TX_BEGIN a (R125): `TXB <- [a]; TXLEN <- 1; TXST <- OPEN; respond(1)`, in every TXST. -/
def execTxBegin (a : Byte) (s : State) : Result :=
  respond (raw8 1) { s with txb := [a], txst := .opened }

/-- TX_BYTE b (R126): SEQ unless a frame is open, FULL unless the 4-byte trailer still fits after it, else append; the order is
60_exceptions.md R204's. -/
def execTxByte (b : Byte) (s : State) : Result :=
  if s.txst ≠ .opened then raise .seq s
  else if s.txlen ≥ s.params.txCap - 4 then raise .full s
  else respond (raw8 (s.txlen + 1)) (appendTxb [b] s)

/-- TX_END (R127): SEQ unless a frame is open, else append the trailer; DATA = {new TXLEN, crc}. CRC is neither read nor
written (41_crc.md R110). -/
def execTxEnd (s : State) : Result :=
  if s.txst ≠ .opened then raise .seq s
  else
    let c := crc16 s.txb
    respond (BitVec.ofNat 8 (s.txlen + 4) ++ c) { appendTxb (trailer c) s with txst := .done }

/-- TX_READ i (R128): INDEX if i ≥ TXLEN, else the byte, in every TXST. -/
def execTxRead (i : Byte) (s : State) : Result :=
  match readTxb s i.toNat with
  | none => raise .index s
  | some b => respond (b.setWidth 24) s

/-- TX_LEN (R129): `respond(zext_24(TXLEN))`. -/
def execTxLen (s : State) : Result := respond (raw8 s.txlen) s

/-- RX_BEGIN e (R130): empty RXB, EXPLEN := e, RXST := OPEN, VALID := 0, PCOUNT := 0, in every state; PW is left as it is. -/
def execRxBegin (e : Byte) (s : State) : Result :=
  respond (raw8 e.toNat)
    { s with rxb := [], explen := ⟨e.toNat, e.isLt⟩, rxst := .opened, valid := false, pcount := 0 }

/-- RX_BYTE b (R131): SEQ before any RX_BEGIN, FULL once EXPLEN bytes are held (the byte is dropped), else append. VALID does not
change. -/
def execRxByte (b : Byte) (s : State) : Result :=
  if s.rxst ≠ .opened then raise .seq s
  else if s.rxlen ≥ s.explen.val then raise .full s
  else respond (raw8 (s.rxlen + 1)) (appendRxb b s)

/-- The state RX_CHECK leaves (R132): an accepted frame latches VALID, PCOUNT and PW, a rejected one clears VALID and PCOUNT. The
word count is at most 124, because EXPLEN is at most 255. -/
def latchPayload (r : Option (List Word)) (s : State) : State :=
  match r with
  | some ws => { s with valid := true, pcount := Fin.ofNat 125 ws.length, pw := latchWords ws s.pw }
  | none => { s with valid := false, pcount := 0 }

/-- RX_CHECK (R132): decode RXB against EXPLEN and latch the result; a rejected frame is no error (R124). CRC is neither read
nor written (41_crc.md R110). -/
def execRxCheck (s : State) : Result :=
  let s' := latchPayload (decodeFrame s.params.termCheck s.rxb s.explen.val) s
  respond (payloadImage s'.valid s'.pcount.val) s'

/-- RX_READ i (R133): INDEX if i ≥ RXLEN, else the byte, whatever VALID is. -/
def execRxRead (i : Byte) (s : State) : Result :=
  match readRxb s i.toNat with
  | none => raise .index s
  | some b => respond (b.setWidth 24) s

/-- RX_LEN (R134): `respond({0[7:0], zext_8(EXPLEN), zext_8(RXLEN)})`. -/
def execRxLen (s : State) : Result :=
  respond (0#8 ++ BitVec.ofNat 8 s.explen.val ++ BitVec.ofNat 8 s.rxlen) s

end Sys2Proof.Machine
end

