-- ==== Sys2Proof/Machine/System.lean ====
section
/-!
DEFINITION. The meanings of the system commands (44_system.md).
-/

namespace Sys2Proof.Machine

/-- NOP (R190): `respond(0)`. -/
def execNop (s : State) : Result := respond 0 s

/-- STATUS (R191): the STATUS image; reading it clears nothing. -/
def execStatus (s : State) : Result := respond (statusImage s) s

/-- SRST (R192): every component to its reset value, then `respond(0)`. -/
def execSrst (s : State) : Result := respond 0 (resetBlock s)

end Sys2Proof.Machine
end

