-- ==== Sys2Proof/Machine/Dispatch.lean ====
section
/-!
DEFINITION. One arm per command: the meaning the spec gives it (30_encoding.md R65's last column).
-/

namespace Sys2Proof.Machine

def exec (i : Instr) (s : State) : Host.Outcome State Fault Refusal :=
  match i with
  | .nop => Sys2Proof.Machine.execNop s
  | .crcInit => Sys2Proof.Machine.execCrcInit s
  | .crcByte b => Sys2Proof.Machine.execCrcByte b s
  | .crcRead => Sys2Proof.Machine.execCrcRead s
  | .txBegin a => Sys2Proof.Machine.execTxBegin a s
  | .txByte b => Sys2Proof.Machine.execTxByte b s
  | .txEnd => Sys2Proof.Machine.execTxEnd s
  | .txRead x => Sys2Proof.Machine.execTxRead x s
  | .txLen => Sys2Proof.Machine.execTxLen s
  | .rxBegin e => Sys2Proof.Machine.execRxBegin e s
  | .rxByte b => Sys2Proof.Machine.execRxByte b s
  | .rxCheck => Sys2Proof.Machine.execRxCheck s
  | .rxRead x => Sys2Proof.Machine.execRxRead x s
  | .rxLen => Sys2Proof.Machine.execRxLen s
  | .word x => Sys2Proof.Machine.execWord x s
  | .field x g k => Sys2Proof.Machine.execField x g k s
  | .sign v => Sys2Proof.Machine.execSign v s
  | .bal x c => Sys2Proof.Machine.execBal x c s
  | .layout l j => Sys2Proof.Machine.execLayout l j s
  | .plen => Sys2Proof.Machine.execPlen s
  | .status => Sys2Proof.Machine.execStatus s
  | .srst => Sys2Proof.Machine.execSrst s

end Sys2Proof.Machine
end

