-- ==== Sys2Proof/Machine/Step.lean ====
section
/-!
DEFINITION. One step of the block (60_exceptions.md R210): the oldest command word of the port is taken, decoded and performed
whole (20_memory.md R48, R51).
-/

namespace Sys2Proof.Machine

/-- `exec(params, state, CW) = (state', RW)` of R210, over the word the port holds. -/
def step (s : State) : Host.Outcome State Fault Refusal :=
  match takeCommand s with
  | none => idle s
  | some (cw, s') =>
    match decodeCW cw with
    | .error why => execIllegal why s'
    | .ok i => exec i s'

/-- The command word with the bits `w` (the bits above `nbits` zero) as the next word the block takes from its port. -/
def State.withFetchWord (s : State) (nbits w : Nat) : State := putCommand (tableWord nbits w) s

end Sys2Proof.Machine
end

