-- ==== Sys2Proof/Machine/Assembler.lean ====
section
/-!
DEFINITION. The text side of the commands: the assembly syntax of 30_encoding.md R68 and the pseudo-commands of R69. The block sees
only the command words of the expansions. What R68 leaves open is fixed by log entry 9 (DESIGN CHOICE).
-/

namespace Sys2Proof

/-- R69: `CRC_BLOCK b0, .., bn-1`. -/
def crcBlock (bs : List Byte) : List Instr := .crcInit :: bs.map .crcByte ++ [.crcRead]

/-- R69: `TX_FRAME a, b0, .., bn-1`. -/
def txFrame (a : Byte) (bs : List Byte) : List Instr := .txBegin a :: bs.map .txByte ++ [.txEnd]

/-- R69: `RX_FRAME e, f0, .., fm-1`. -/
def rxFrame (e : Byte) (fs : List Byte) : List Instr := .rxBegin e :: fs.map .rxByte ++ [.rxCheck]

/-- A command's mnemonic (R65). -/
def Instr.mnemonic : Instr → String
  | .nop => "NOP"
  | .crcInit => "CRC_INIT"
  | .crcByte _ => "CRC_BYTE"
  | .crcRead => "CRC_READ"
  | .txBegin _ => "TX_BEGIN"
  | .txByte _ => "TX_BYTE"
  | .txEnd => "TX_END"
  | .txRead _ => "TX_READ"
  | .txLen => "TX_LEN"
  | .rxBegin _ => "RX_BEGIN"
  | .rxByte _ => "RX_BYTE"
  | .rxCheck => "RX_CHECK"
  | .rxRead _ => "RX_READ"
  | .rxLen => "RX_LEN"
  | .word _ => "WORD"
  | .field _ _ _ => "FIELD"
  | .sign _ => "SIGN"
  | .bal _ _ => "BAL"
  | .layout _ _ => "LAYOUT"
  | .plen => "PLEN"
  | .status => "STATUS"
  | .srst => "SRST"

/-- The value of a decimal or hexadecimal digit below `base`. -/
def digitValue (base : Nat) (c : Char) : Option Nat :=
  let n := c.toNat
  let v :=
    if 48 ≤ n ∧ n ≤ 57 then n - 48
    else if 65 ≤ n ∧ n ≤ 70 then n - 55
    else if 97 ≤ n ∧ n ≤ 102 then n - 87
    else 16
  if v < base then some v else none

/-- The value of a digit sequence, most significant first; none if a character is no digit. -/
def digitsValue (base : Nat) (cs : List Char) : Option Nat :=
  cs.foldl (fun acc c => acc.bind fun v => (digitValue base c).map fun d => v * base + d) (some 0)

/-- R68: "A numeric operand is decimal, or hexadecimal with a `0x` prefix." -/
def parseNumber (cs : List Char) : Option Nat :=
  match cs with
  | [] => none
  | '0' :: 'x' :: [] => none
  | '0' :: 'x' :: hex => digitsValue 16 hex
  | dec => digitsValue 10 dec

/-- A number of `w` bits: a value that does not fit is no operand of that width. -/
def parseBits (w : Nat) (cs : List Char) : Option (BitVec w) :=
  match parseNumber cs with
  | some n => if n < 2 ^ w then some (BitVec.ofNat w n) else none
  | none => none

/-- R68: `U` sets S = 0 and `S` sets S = 1. -/
def parseSigned (cs : List Char) : Option Bool :=
  if cs = ['U'] then some false else if cs = ['S'] then some true else none

/-- R68: `l` is a layout id, or `VOLT`, `TEMP` or `SOC`. -/
def parseLayout (cs : List Char) : Option LayoutId :=
  if cs = "VOLT".toList then some .volt
  else if cs = "TEMP".toList then some .temp
  else if cs = "SOC".toList then some .soc
  else (parseBits 8 cs).bind layoutOfByte

/-- Spaces and tabs. -/
def isBlank (c : Char) : Bool := c == ' ' || c == '\t' || c == '\r'

/-- A text less its blanks at both ends. -/
def trimBlanks (cs : List Char) : List Char :=
  ((cs.dropWhile isBlank).reverse.dropWhile isBlank).reverse

/-- A text cut at each occurrence of a separator. -/
def splitAtChar (sep : Char) : List Char → List (List Char)
  | [] => [[]]
  | c :: cs =>
    if c == sep then [] :: splitAtChar sep cs
    else
      match splitAtChar sep cs with
      | [] => [[c]]
      | part :: parts => (c :: part) :: parts

/-- A mnemonic or pseudo-mnemonic with its operand texts, as the commands it stands for (R68, R69). -/
def parseCommand (name : List Char) (args : List (List Char)) : Option (List Instr) :=
  let plain (n : String) (i : Instr) : Option (List Instr) := if name = n.toList ∧ args = [] then some [i] else none
  let byte (n : String) (f : Byte → Instr) : Option (List Instr) :=
    match args with
    | [a] => if name = n.toList then (parseBits 8 a).map fun b => [f b] else none
    | _ => none
  let bytes : Option (List Byte) := args.mapM (parseBits 8)
  plain "NOP" .nop <|> plain "CRC_INIT" .crcInit <|> byte "CRC_BYTE" .crcByte <|> plain "CRC_READ" .crcRead
    <|> byte "TX_BEGIN" .txBegin <|> byte "TX_BYTE" .txByte <|> plain "TX_END" .txEnd <|> byte "TX_READ" .txRead
    <|> plain "TX_LEN" .txLen <|> byte "RX_BEGIN" .rxBegin <|> byte "RX_BYTE" .rxByte <|> plain "RX_CHECK" .rxCheck
    <|> byte "RX_READ" .rxRead <|> plain "RX_LEN" .rxLen <|> byte "WORD" .word <|> plain "PLEN" .plen
    <|> plain "STATUS" .status <|> plain "SRST" .srst
    <|> (match args with
      | [v] => if name = "SIGN".toList then (parseBits 16 v).map fun w => [.sign w] else none
      | [i, c] =>
        if name = "BAL".toList then (parseBits 8 i).bind fun i => (parseBits 2 c).map fun c => [.bal i c]
        else if name = "LAYOUT".toList then
          (parseLayout i).bind fun l => (parseBits 8 c).bind fun j =>
            if (Instr.layout l j).wellFormed then some [.layout l j] else none
        else none
      | [i, s, k] =>
        if name = "FIELD".toList then
          (parseBits 8 i).bind fun i => (parseSigned s).bind fun s => (parseBits 4 k).map fun k => [.field i s k]
        else none
      | _ => none)
    <|> (bytes.bind fun bs =>
      if name = "CRC_BLOCK".toList then some (crcBlock bs)
      else
        match bs with
        | b :: rest =>
          if name = "TX_FRAME".toList then some (txFrame b rest)
          else if name = "RX_FRAME".toList then some (rxFrame b rest)
          else none
        | [] => none)

/-- One line of assembly text: the comment from `;` on dropped, then a command or nothing. None where the line is no command. -/
def assembleLine (line : List Char) : Option (List Instr) :=
  let body := trimBlanks (line.takeWhile (· != ';'))
  match body.span (fun c => !isBlank c) with
  | ([], _) => some []
  | (name, rest) =>
    let operands := trimBlanks rest
    parseCommand name (if operands = [] then [] else (splitAtChar ',' operands).map trimBlanks)

/-- A text, "One command goes on each line" (R68). -/
def assemble (text : List Char) : Option (List Instr) :=
  ((splitAtChar '\n' text).mapM assembleLine).map List.flatten

/-- One digit of a decimal number. -/
def digitChar (d : Nat) : Char := Char.ofNat (48 + d)

/-- A number below 65536 in decimal. -/
def showNumber (n : Nat) : List Char :=
  let digits := [n / 10000 % 10, n / 1000 % 10, n / 100 % 10, n / 10 % 10].dropWhile (· == 0)
  (digits ++ [n % 10]).map digitChar

/-- Operand texts with a comma between them. -/
def showOperands : List (List Char) → List Char
  | [] => []
  | [a] => ' ' :: a
  | a :: rest => ' ' :: a ++ ',' :: showOperands rest

/-- A command as R68 writes it. -/
def Instr.text (i : Instr) : List Char :=
  i.mnemonic.toList ++ showOperands (match i with
    | .crcByte b | .txBegin b | .txByte b | .txRead b | .rxBegin b | .rxByte b | .rxRead b | .word b => [showNumber b.toNat]
    | .sign v => [showNumber v.toNat]
    | .field i s k => [showNumber i.toNat, if s then ['S'] else ['U'], showNumber k.toNat]
    | .bal i c => [showNumber i.toNat, showNumber c.toNat]
    | .layout l j => [showNumber l.code.toNat, showNumber j.toNat]
    | .nop | .crcInit | .crcRead | .txEnd | .txLen | .rxCheck | .rxLen | .plen | .status | .srst => [])

end Sys2Proof
end

