-- ==== Sys2Proof/Safety.lean ====
section
/-!
DEFINITION. What counts as a good state and a harmless command: the invariants of 10_state.md R34, the observable part of a state
(R36), and the read commands (20_memory.md R49).
-/

namespace Sys2Proof.Machine

/-- R34 item 1: the buffers stay within their capacities. -/
abbrev State.LengthsBounded (s : State) : Prop :=
  s.txlen ≤ s.params.txCap ∧ s.rxlen ≤ s.explen.val

/-- R34 item 2: what TXST says about TXLEN. -/
abbrev State.TxLengthFitsState (s : State) : Prop :=
  (s.txst = .idle → s.txlen = 0) ∧
  (s.txst = .opened → 1 ≤ s.txlen ∧ s.txlen ≤ s.params.txCap - 4) ∧
  (s.txst = .done → 5 ≤ s.txlen ∧ s.txlen ≤ s.params.txCap)

/-- R34 item 3: a finished frame ends in the checksum of the bytes before it, low byte first, and `0x0D 0x0A`. -/
abbrev State.DoneFrameHasTrailer (s : State) : Prop :=
  s.txst = .done →
    byteAt s.txb (s.txlen - 4) = lowByte (crc16 (s.txb.take (s.txlen - 4))) ∧
    byteAt s.txb (s.txlen - 3) = highByte (crc16 (s.txb.take (s.txlen - 4))) ∧
    byteAt s.txb (s.txlen - 2) = 0x0D ∧ byteAt s.txb (s.txlen - 1) = 0x0A

/-- R34 item 4: before any RX_BEGIN nothing is received, expected or valid. -/
abbrev State.IdleReceiverIsEmpty (s : State) : Prop :=
  s.rxst = .idle → s.rxlen = 0 ∧ s.explen.val = 0 ∧ s.valid = false

/-- R34 item 5: a valid payload is the big-endian words of the bytes held. -/
abbrev State.PayloadMirrorsFrame (s : State) : Prop :=
  s.valid = true →
    s.rxlen = s.explen.val ∧ 7 ≤ s.explen.val ∧ (s.explen.val - 7) % 2 = 0 ∧
    s.pcount.val = (s.explen.val - 7) / 2 ∧
    ∀ i, i < s.pcount.val → readPw s i = byteAt s.rxb (3 + 2 * i) ++ byteAt s.rxb (4 + 2 * i)

/-- R34 item 6. -/
abbrev State.NoPayloadNoCount (s : State) : Prop := s.valid = false → s.pcount.val = 0

/-- R34 item 7: a recorded failure and the sticky bit go together. -/
abbrev State.ErrorStateAgrees (s : State) : Prop :=
  (s.errseen = false → s.lasterr = .ok) ∧ (s.lasterr ≠ .ok → s.errseen = true)

/-- The invariants of R34, with R7's range of the parameter TX_CAP. -/
abbrev State.Inv (s : State) : Prop :=
  s.params.wf ∧ s.LengthsBounded ∧ s.TxLengthFitsState ∧ s.DoneFrameHasTrailer ∧ s.IdleReceiverIsEmpty ∧
    s.PayloadMirrorsFrame ∧ s.NoPayloadNoCount ∧ s.ErrorStateAgrees

/-- Two states that R36 lets no command tell apart: they agree but for the words of PW that no command may read. -/
def State.SameObservable (s t : State) : Prop :=
  { s with pw := t.pw } = t ∧ (s.valid = true → ∀ i, i < s.pcount.val → readPw s i = readPw t i)

/-- R49's read commands. -/
def readsOnly : Instr → Bool
  | .crcRead | .txRead _ | .txLen | .rxRead _ | .rxLen | .word _ | .field _ _ _ | .sign _ | .bal _ _ | .layout _ _
  | .plen | .status | .nop => true
  | .crcInit | .crcByte _ | .txBegin _ | .txByte _ | .txEnd | .rxBegin _ | .rxByte _ | .rxCheck | .srst => false

/-- The commands of the CRC unit (41_crc.md). -/
def isCrcCommand : Instr → Bool
  | .crcInit | .crcByte _ | .crcRead => true
  | .nop | .txBegin _ | .txByte _ | .txEnd | .txRead _ | .txLen | .rxBegin _ | .rxByte _ | .rxCheck | .rxRead _ | .rxLen
  | .word _ | .field _ _ _ | .sign _ | .bal _ _ | .layout _ _ | .plen | .status | .srst => false

/-- The frame commands (42_frame.md). -/
def isFrameCommand : Instr → Bool
  | .txBegin _ | .txByte _ | .txEnd | .txRead _ | .txLen | .rxBegin _ | .rxByte _ | .rxCheck | .rxRead _ | .rxLen => true
  | .nop | .crcInit | .crcByte _ | .crcRead | .word _ | .field _ _ _ | .sign _ | .bal _ _ | .layout _ _ | .plen | .status
  | .srst => false

end Sys2Proof.Machine
end

