-- ==== Sys2Proof/Certificates/Slice0/Obligations.lean ====
section
/-!
DEFINITION. The statements for the provers. Each docstring names the rules of spec/ it formalises. The state's own port fields
(`commands`, `response`) and its `params` are the model's, by log entries 1, 2 and 4.
-/

open Sys2Proof Sys2Proof.Machine

namespace Sys2Proof.Claims

/-- A command word that the block refuses as ILLEGAL whatever the state is, with no effect but R201's. -/
def RefusedAsIllegal (cw : CommandWord) : Prop :=
  ∀ (s : State) (rest : List CommandWord), s.commands = cw :: rest →
    step s = .next { s with commands := rest, lasterr := .illegal, errseen := true, response := some 0x01000000 }

/-- Every word with this opcode and a nonzero operand field is ILLEGAL: format N (30_encoding.md R61). -/
def NoOperands (op : Byte) : Prop :=
  ∀ (a : Byte) (b : BitVec 16), a ≠ 0 ∨ b ≠ 0 → RefusedAsIllegal (op ++ a ++ b)

/-- Every word with this opcode and a nonzero B is ILLEGAL: format A8 (R61). -/
def OnlyOperandA (op : Byte) : Prop :=
  ∀ (a : Byte) (b : BitVec 16), b ≠ 0 → RefusedAsIllegal (op ++ a ++ b)

/-- The command answers a next state in which only R201's effect of a failure with this status has happened. -/
def Raises (i : Instr) (s : State) (st : Status) : Prop :=
  exec i s = .next { s with lasterr := st, errseen := true, response := some (st.code ++ 0#24) }

/-- The command answers OK with the FX value M × 10^(−K), read back as 43_field.md R152 says, and nothing else changes. -/
def AnswersFx (i : Instr) (s : State) (k : BitVec 4) (m : Int) : Prop :=
  ∃ rw : ResponseWord, exec i s = .next { s with response := some rw } ∧
    rw.extractLsb' 24 8 = 0 ∧ rw.extractLsb' 20 4 = k ∧ (rw.extractLsb' 0 20).toInt = m

/-- R66 case 1: the opcodes that name no command. -/
def UnlistedOpcode (op : Nat) : Prop :=
  (0x04 ≤ op ∧ op ≤ 0x0F) ∨ (0x15 ≤ op ∧ op ≤ 0x1F) ∨ (0x25 ≤ op ∧ op ≤ 0x2F) ∨ (0x36 ≤ op ∧ op ≤ 0xEF) ∨
    (0xF1 ≤ op ∧ op ≤ 0xFE)

/-- R66 case 2, format by format of R61. -/
def NonzeroReservedField (op a b : Nat) : Prop :=
  (op ∈ [0x00, 0x01, 0x03, 0x12, 0x14, 0x22, 0x24, 0x35, 0xF0, 0xFF] ∧ (a ≠ 0 ∨ b ≠ 0)) ∨
  (op ∈ [0x02, 0x10, 0x11, 0x13, 0x20, 0x21, 0x23, 0x30] ∧ b ≠ 0) ∨
  (op = 0x31 ∧ 32 ≤ b) ∨ (op = 0x32 ∧ a ≠ 0) ∨ (op = 0x33 ∧ 4 ≤ b) ∨ (op = 0x34 ∧ 256 ≤ b)

/-- R66 case 3: NF(0) = 7, NF(1) = 5, NF(2) = 7. -/
def LayoutOutOfRange (op a b : Nat) : Prop :=
  op = 0x34 ∧ (2 < a ∨ (a = 0 ∧ 7 ≤ b % 256) ∨ (a = 1 ∧ 5 ≤ b % 256) ∨ (a = 2 ∧ 7 ≤ b % 256))

/-- R66: the ILLEGAL command words, by their numbers. -/
def IllegalWord (cw : CommandWord) : Prop :=
  let op := cw.toNat / 2 ^ 24
  let a := cw.toNat / 2 ^ 16 % 2 ^ 8
  let b := cw.toNat % 2 ^ 16
  UnlistedOpcode op ∨ NonzeroReservedField op a b ∨ LayoutOutOfRange op a b

/-- The status R200 and R204 give a well-formed command: the first cause of its row that applies, else OK. -/
def statusOf (s : State) : Instr → Nat
  | .txByte _ => if s.txst ≠ .opened then 2 else if s.params.txCap ≤ s.txb.length + 4 then 3 else 0
  | .txEnd => if s.txst ≠ .opened then 2 else 0
  | .rxByte _ => if s.rxst ≠ .opened then 2 else if s.explen.val ≤ s.rxb.length then 3 else 0
  | .txRead i => if s.txb.length ≤ i.toNat then 5 else 0
  | .rxRead i => if s.rxb.length ≤ i.toNat then 5 else 0
  | .word i | .field i _ _ | .bal i _ => if s.valid = false then 4 else if s.pcount.val ≤ i.toNat then 5 else 0
  | .layout l _ => if s.valid = false then 4 else if s.pcount.val ≠ l.wordCount then 6 else 0
  | .nop | .crcInit | .crcByte _ | .crcRead | .txBegin _ | .txLen | .rxBegin _ | .rxCheck | .rxLen | .sign _ | .plen
  | .status | .srst => 0

/-- The frame RX_CHECK accepts, clause by clause of 42_frame.md R123. -/
def AcceptableFrame (s : State) : Prop :=
  s.rxb.length = s.explen.val ∧ 7 ≤ s.rxb.length ∧ (s.rxb.length - 7) % 2 = 0 ∧
  crc16 (s.rxb.take (s.rxb.length - 4)) = s.rxb.getD (s.rxb.length - 3) 0 ++ s.rxb.getD (s.rxb.length - 4) 0 ∧
  (s.params.termCheck = true →
    s.rxb.getD (s.rxb.length - 2) 0 = 0x0D ∧ s.rxb.getD (s.rxb.length - 1) 0 = 0x0A)

/-- A byte sequence with its bit number n (bit n mod 8 of byte n / 8) changed. -/
def flipBit (f : List Byte) (n : Nat) : List Byte :=
  f.set (n / 8) (f.getD (n / 8) 0 ^^^ (1#8 <<< (n % 8)))

/-- The rows of 43_field.md R160 to R162 that return an FX value: layout, WC, J, word, signed, K. -/
def fxRows : List (LayoutId × Nat × Byte × Nat × Bool × BitVec 4) := [
  (.volt, 9, 0, 0, false, 3), (.volt, 9, 1, 1, false, 3), (.volt, 9, 2, 2, false, 3), (.volt, 9, 3, 3, false, 3),
  (.volt, 9, 4, 4, false, 3), (.volt, 9, 5, 5, false, 3), (.volt, 9, 6, 6, false, 3),
  (.temp, 7, 0, 0, true, 2), (.temp, 7, 1, 1, true, 2), (.temp, 7, 2, 2, true, 2), (.temp, 7, 3, 3, true, 2),
  (.temp, 7, 4, 4, true, 2),
  (.soc, 12, 0, 0, false, 0), (.soc, 12, 1, 7, true, 2), (.soc, 12, 2, 9, false, 3)]

/-- The mantissa of a payload word: the raw word, or its sign recovery (43_field.md R151, R150). -/
def mantissa (conv : SignConv) (signed : Bool) (v : Word) : Int :=
  if signed then signed16 conv v else v.toNat

end Sys2Proof.Claims

open Sys2Proof.Claims

/-! ## Encoding -/

/-- Decode of encode is the command, every operand at every value (30_encoding.md R60 to R67). -/
def Obligations.DecodeOfEncodeIsTheCommand : Prop :=
  ∀ i : Instr, i.WellFormed → decodeCW (encode i) = .ok i

/-- A word decodes to one command only, and that command encodes to the word (R67). -/
def Obligations.EncodeOfDecodeIsTheWord : Prop :=
  ∀ (cw : CommandWord) (i : Instr), decodeCW cw = .ok i → i.WellFormed ∧ encode i = cw

/-- R66: exactly the words of its three cases are ILLEGAL, and they have no other effect; every other word names a command. -/
def Obligations.ExactlyTheListedWordsAreIllegal : Prop :=
  ∀ cw : CommandWord,
    (IllegalWord cw → RefusedAsIllegal cw) ∧
    (¬ IllegalWord cw → ∃ i : Instr, decodeCW cw = .ok i ∧ i.WellFormed)

/-- Words written out from R65's rows decode to the commands they stand for, one or more per format. -/
def Obligations.WordsOfEveryFormatDecode : Prop :=
  decodeCW 0x12000000 = .ok .txEnd ∧ decodeCW 0x02EE0000 = .ok (.crcByte 0xEE) ∧
  decodeCW 0x3200FF38 = .ok (.sign 0xFF38) ∧ decodeCW 0x31010012 = .ok (.field 1 true 2) ∧
  decodeCW 0x33060002 = .ok (.bal 6 2) ∧ decodeCW 0x34020005 = .ok (.layout .soc 5) ∧
  decodeCW 0xFF000000 = .ok .srst ∧ decodeCW 0x34010005 = .error .layout ∧
  decodeCW 0x31010020 = .error .field ∧ decodeCW 0x36000000 = .error .opcode

/-! ## The step -/

/-- A step runs the decoded command on the state with its word taken from the port (60_exceptions.md R210; log entry 1). -/
def Obligations.StepRunsTheDecodedCommand : Prop :=
  ∀ (s : State) (cw : CommandWord) (rest : List CommandWord) (i : Instr),
    s.commands = cw :: rest → decodeCW cw = .ok i → step s = exec i { s with commands := rest }

/-- A well-formed command's word, put on the port, is what the very next step performs. -/
def Obligations.FetchedWordOfACommandRunsIt : Prop :=
  ∀ (i : Instr) (s : State), i.WellFormed → step (s.withFetchWord 32 (encode i).toNat) = exec i s

/-- Every step completes (R205, R210): a word on the port is performed and answered; with none, nothing changes (log entry 3). -/
def Obligations.EveryStepCompletes : Prop :=
  (∀ (s : State) (cw : CommandWord) (rest : List CommandWord), s.commands = cw :: rest →
    ∃ (t : State) (rw : ResponseWord), step s = .next t ∧ t.commands = rest ∧ t.response = some rw) ∧
  (∀ s : State, s.commands = [] → step s = .next s)

/-- No step changes the parameters (00_scope.md R7, 70_reset_and_hazards.md R230; held in State by log entry 4). -/
def Obligations.NoStepChangesTheParameters : Prop :=
  ∀ s t : State, step s = .next t → t.params = s.params

/-- Commands take effect in the order received; a response reflects no later command; and no failure stops the sequence (20_memory.md
R51, 60_exceptions.md R205). -/
def Obligations.CommandSequencesCompleteInOrder : Prop :=
  ∀ (cws : List CommandWord) (s : State), ∃ t : State,
    ∀ rest : List CommandWord,
      Sys2Proof.core.run cws.length { s with commands := cws ++ rest } = .next { t with commands := rest }

/-! ## Reset and invariants -/

/-- R35: power-on reset and SRST put every component to the table's value (PW's is unspecified and not claimed). -/
def Obligations.ResetPutsTheListedValues : Prop :=
  (∀ p : Params, ∀ s : State, s = State.resetWith p →
    s.crc = 0xFFFF ∧ s.txb = [] ∧ s.txlen = 0 ∧ s.txst = .idle ∧ s.rxb = [] ∧ s.rxlen = 0 ∧ s.explen.val = 0 ∧
    s.rxst = .idle ∧ s.valid = false ∧ s.pcount.val = 0 ∧ s.lasterr.code = 0 ∧ s.errseen = false) ∧
  (∀ s : State, ∃ t : State, exec .srst s = .next t ∧
    t.crc = 0xFFFF ∧ t.txb = [] ∧ t.txlen = 0 ∧ t.txst = .idle ∧ t.rxb = [] ∧ t.rxlen = 0 ∧ t.explen.val = 0 ∧
    t.rxst = .idle ∧ t.valid = false ∧ t.pcount.val = 0 ∧ t.lasterr.code = 0 ∧ t.errseen = false)

/-- The reset state of a block with legal parameters meets the invariants of 10_state.md R34. -/
def Obligations.ResetMeetsTheInvariants : Prop :=
  ∀ p : Params, p.wf → (State.resetWith p).Inv

/-- Every step keeps the invariants of R34, from every state that has them. -/
def Obligations.EveryStepKeepsTheInvariants : Prop :=
  ∀ s t : State, s.Inv → step s = .next t → t.Inv

/-- What 70_reset_and_hazards.md R231 says of the commands right after reset. -/
def Obligations.CommandsRightAfterReset : Prop :=
  ∀ (p : Params) (b : Byte), let s := State.resetWith p
    Raises (.txByte b) s .seq ∧ Raises .txEnd s .seq ∧ Raises (.rxByte b) s .seq ∧
    exec .rxCheck s = .next { s with response := some 0 } ∧
    (∀ i : Byte, Raises (.word i) s .noPayload) ∧
    (∀ (i : Byte) (g : Bool) (k : BitVec 4), Raises (.field i g k) s .noPayload) ∧
    (∀ (i : Byte) (c : BitVec 2), Raises (.bal i c) s .noPayload) ∧
    (∀ (l : LayoutId) (j : Byte), (Instr.layout l j).WellFormed → Raises (.layout l j) s .noPayload)

/-! ## CRC unit -/

/-- R107: CRC_INIT. -/
def Obligations.CrcInitSetsTheInitialValue : Prop :=
  encode .crcInit = 0x01000000 ∧
  (∀ s : State, exec .crcInit s = .next { s with crc := 0xFFFF, response := some 0x0000FFFF }) ∧
  NoOperands 0x01

/-- R108: CRC_BYTE, `crc_update` being R101's, which the spec supplies from general knowledge (log entry 8). -/
def Obligations.CrcByteFoldsOneByte : Prop :=
  (∀ b : Byte, encode (.crcByte b) = 0x02000000 ||| (b.setWidth 32 <<< 16)) ∧
  (∀ (b : Byte) (s : State), exec (.crcByte b) s =
    .next { s with crc := crcUpdate s.crc b, response := some ((crcUpdate s.crc b).setWidth 32) }) ∧
  OnlyOperandA 0x02

/-- R109: CRC_READ. -/
def Obligations.CrcReadAnswersTheAccumulator : Prop :=
  encode .crcRead = 0x03000000 ∧
  (∀ s : State, exec .crcRead s = .next { s with response := some (s.crc.setWidth 32) }) ∧
  NoOperands 0x03

/-- R103: the reflected form the block uses equals the form written from the parameters (from general knowledge: log entry 8). -/
def Obligations.ReflectedCrcEqualsMsbFirstCrc : Prop :=
  ∀ s : List Byte, crc16 s = crc16Msb s

/-- R105: both laws of crc16 (law 2, the residue, is from general knowledge in the spec). -/
def Obligations.CrcComposesAndLeavesNoResidue : Prop :=
  (∀ s t : List Byte, crc16 (s ++ t) = t.foldl crcUpdate (crc16 s)) ∧
  (∀ s : List Byte, crc16 (s ++ [(crc16 s).extractLsb' 0 8, (crc16 s).extractLsb' 8 8]) = 0)

/-- R106: a single-bit change in the bytes the checksum covers, or in the checksum, makes it wrong, and RX_CHECK then rejects. -/
def Obligations.SingleBitErrorsAreDetected : Prop :=
  (∀ (f : List Byte) (n : Nat), 4 ≤ f.length → n < 8 * (f.length - 2) → checksumOk f = true →
    checksumOk (flipBit f n) = false) ∧
  (∀ (s t u : State) (n : Nat), exec .rxCheck s = .next t → t.valid = true → n < 8 * (s.rxb.length - 2) →
    exec .rxCheck { s with rxb := flipBit s.rxb n } = .next u → u.valid = false)

/-- R108's corner case and R69: CRC_BLOCK leaves and returns crc16 of its bytes, from any state. -/
def Obligations.CrcBlockComputesTheChecksum : Prop :=
  ∀ (bs : List Byte) (s : State) (rest : List CommandWord),
    Sys2Proof.core.run (bs.length + 2) { s with commands := (crcBlock bs).map encode ++ rest } =
      .next { s with crc := crc16 bs, commands := rest, response := some ((crc16 bs).setWidth 32) }

/-- R110: a CRC command and a frame command may be interchanged: each answers the same and the state left is the same. -/
def Obligations.CrcAndFrameCommandsDoNotInterfere : Prop :=
  ∀ (c f : Instr) (s : State), isCrcCommand c = true → isFrameCommand f = true →
    ∃ s1 s2 t1 t2 : State,
      exec c s = .next s1 ∧ exec f s1 = .next s2 ∧ exec f s = .next t1 ∧ exec c t1 = .next t2 ∧
      s1.response = t2.response ∧ s2.response = t1.response ∧
      { s2 with response := none } = { t2 with response := none }

/-! ## Frame codec -/

/-- R125: TX_BEGIN. -/
def Obligations.TxBeginStartsAFrame : Prop :=
  (∀ a : Byte, encode (.txBegin a) = 0x10000000 ||| (a.setWidth 32 <<< 16)) ∧
  (∀ (a : Byte) (s : State), ∃ t : State, exec (.txBegin a) s = .next t ∧
    t = { s with txb := [a], txst := .opened, response := some 0x00000001 } ∧ t.txlen = 1) ∧
  OnlyOperandA 0x10

/-- R126: TX_BYTE. -/
def Obligations.TxByteAppendsABodyByte : Prop :=
  (∀ b : Byte, encode (.txByte b) = 0x11000000 ||| (b.setWidth 32 <<< 16)) ∧
  (∀ (b : Byte) (s : State), s.txst = .opened → s.txb.length + 4 < s.params.txCap →
    exec (.txByte b) s =
      .next { s with txb := s.txb ++ [b], response := some (0#24 ++ BitVec.ofNat 8 (s.txb.length + 1)) }) ∧
  (∀ (b : Byte) (s : State), s.txst ≠ .opened → Raises (.txByte b) s .seq) ∧
  (∀ (b : Byte) (s : State), s.txst = .opened → s.params.txCap ≤ s.txb.length + 4 → Raises (.txByte b) s .full) ∧
  OnlyOperandA 0x11

/-- R127: TX_END appends the checksum low byte first, then 0x0D 0x0A, and does not use or change CRC. -/
def Obligations.TxEndAppendsTheTrailer : Prop :=
  encode .txEnd = 0x12000000 ∧
  (∀ s : State, s.txst = .opened →
    exec .txEnd s = .next { s with
      txb := s.txb ++ [(crc16 s.txb).extractLsb' 0 8, (crc16 s.txb).extractLsb' 8 8, 0x0D, 0x0A]
      txst := .done
      response := some (0#8 ++ BitVec.ofNat 8 (s.txb.length + 4) ++ crc16 s.txb) }) ∧
  (∀ s : State, s.txst ≠ .opened → Raises .txEnd s .seq) ∧
  NoOperands 0x12

/-- R128: TX_READ. -/
def Obligations.TxReadAnswersOneByte : Prop :=
  (∀ i : Byte, encode (.txRead i) = 0x13000000 ||| (i.setWidth 32 <<< 16)) ∧
  (∀ (i b : Byte) (s : State), s.txb[i.toNat]? = some b →
    exec (.txRead i) s = .next { s with response := some (b.setWidth 32) }) ∧
  (∀ (i : Byte) (s : State), s.txb.length ≤ i.toNat → Raises (.txRead i) s .index) ∧
  OnlyOperandA 0x13

/-- R129: TX_LEN. -/
def Obligations.TxLenAnswersTheLength : Prop :=
  encode .txLen = 0x14000000 ∧
  (∀ s : State, exec .txLen s = .next { s with response := some (0#24 ++ BitVec.ofNat 8 s.txb.length) }) ∧
  NoOperands 0x14

/-- R130: RX_BEGIN; PW is left as it is. -/
def Obligations.RxBeginStartsAResponse : Prop :=
  (∀ e : Byte, encode (.rxBegin e) = 0x20000000 ||| (e.setWidth 32 <<< 16)) ∧
  (∀ (e : Byte) (s : State), ∃ t : State, exec (.rxBegin e) s = .next t ∧
    t = { s with rxb := [], explen := t.explen, rxst := .opened, valid := false, pcount := 0,
                 response := some (e.setWidth 32) } ∧
    t.explen.val = e.toNat ∧ t.rxlen = 0) ∧
  OnlyOperandA 0x20

/-- R131: RX_BYTE. -/
def Obligations.RxByteAppendsAReceivedByte : Prop :=
  (∀ b : Byte, encode (.rxByte b) = 0x21000000 ||| (b.setWidth 32 <<< 16)) ∧
  (∀ (b : Byte) (s : State), s.rxst = .opened → s.rxb.length < s.explen.val →
    exec (.rxByte b) s = .next { s with rxb := s.rxb ++ [b], response := some (BitVec.ofNat 32 (s.rxb.length + 1)) }) ∧
  (∀ (b : Byte) (s : State), s.rxst ≠ .opened → Raises (.rxByte b) s .seq) ∧
  (∀ (b : Byte) (s : State), s.rxst = .opened → s.explen.val ≤ s.rxb.length → Raises (.rxByte b) s .full) ∧
  OnlyOperandA 0x21

/-- R132 with R123: RX_CHECK latches the big-endian words of exactly the acceptable frames; a rejected one is OK with VALID = 0
(R124). -/
def Obligations.RxCheckLatchesAcceptedFrames : Prop :=
  encode .rxCheck = 0x22000000 ∧
  (∀ s : State, AcceptableFrame s → ∃ t : State, exec .rxCheck s = .next t ∧
    t = { s with valid := true, pcount := t.pcount, pw := t.pw,
                 response := some (0#8 ++ 1#1 ++ 0#15 ++ BitVec.ofNat 8 t.pcount.val) } ∧
    t.pcount.val = (s.rxb.length - 7) / 2 ∧
    (∀ i : Nat, i < t.pcount.val → readPw t i = s.rxb.getD (3 + 2 * i) 0 ++ s.rxb.getD (4 + 2 * i) 0) ∧
    (∀ i : Nat, t.pcount.val ≤ i → readPw t i = readPw s i)) ∧
  (∀ s : State, ¬ AcceptableFrame s →
    exec .rxCheck s = .next { s with valid := false, pcount := 0, response := some 0 }) ∧
  NoOperands 0x22

/-- R133: RX_READ. -/
def Obligations.RxReadAnswersOneByte : Prop :=
  (∀ i : Byte, encode (.rxRead i) = 0x23000000 ||| (i.setWidth 32 <<< 16)) ∧
  (∀ (i b : Byte) (s : State), s.rxb[i.toNat]? = some b →
    exec (.rxRead i) s = .next { s with response := some (b.setWidth 32) }) ∧
  (∀ (i : Byte) (s : State), s.rxb.length ≤ i.toNat → Raises (.rxRead i) s .index) ∧
  OnlyOperandA 0x23

/-- R134: RX_LEN. -/
def Obligations.RxLenAnswersBothCounts : Prop :=
  encode .rxLen = 0x24000000 ∧
  (∀ s : State, exec .rxLen s =
    .next { s with response := some (0#16 ++ BitVec.ofNat 8 s.explen.val ++ BitVec.ofNat 8 s.rxb.length) }) ∧
  NoOperands 0x24

/-- R135 with R120: TX_FRAME from any state leaves TXB = encode(a, body), TXST = DONE, and nothing else changed. -/
def Obligations.TransmitCommandsPerformEncode : Prop :=
  ∀ (a : Byte) (body : List Byte) (s : State) (rest : List CommandWord), body.length + 5 ≤ s.params.txCap →
    (encodeFrame a body).length = body.length + 5 ∧
    Sys2Proof.core.run (body.length + 2) { s with commands := (txFrame a body).map encode ++ rest } =
      .next { s with
        txb := encodeFrame a body, txst := .done, commands := rest,
        response := some (0#8 ++ BitVec.ofNat 8 (body.length + 5) ++ crc16 (a :: body)) }

/-- R136: RX_FRAME from any state holds the first min(len(f), e) bytes of f and leaves exactly what `decode` gives of them. -/
def Obligations.ReceiveCommandsPerformDecode : Prop :=
  ∀ (e : Byte) (f : List Byte) (s : State) (rest : List CommandWord), ∃ t : State,
    Sys2Proof.core.run (f.length + 2) { s with commands := (rxFrame e f).map encode ++ rest } = .next t ∧
    t.rxb = f.take e.toNat ∧ t.explen.val = e.toNat ∧ t.rxst = .opened ∧ t.commands = rest ∧
    t.crc = s.crc ∧ t.txb = s.txb ∧ t.txst = s.txst ∧
    (∀ ws : List Word, decodeFrame s.params.termCheck (f.take e.toNat) e.toNat = some ws →
      t.valid = true ∧ t.pcount.val = ws.length ∧ ∀ i : Nat, i < ws.length → some (readPw t i) = ws[i]?) ∧
    (decodeFrame s.params.termCheck (f.take e.toNat) e.toNat = none → t.valid = false ∧ t.pcount.val = 0)

/-- R137: decode recovers the words a response frame was built from, under either TERM_CHECK; the frame is encode(a, p[1..)). -/
def Obligations.ResponseFramesRoundTrip : Prop :=
  ∀ (tc : Bool) (a h0 h1 : Byte) (ws : List Word),
    decodeFrame tc (responseFrame a h0 h1 ws) (7 + 2 * ws.length) = some ws ∧
    responseFrame a h0 h1 ws =
      encodeFrame a (h0 :: h1 :: ws.flatMap fun w => [w.extractLsb' 8 8, w.extractLsb' 0 8])

/-- R123's terminator test: with TERM_CHECK = false the last two bytes are not examined; with true they must be 0x0D 0x0A. -/
def Obligations.TerminatorIsExaminedOnlyOnRequest : Prop :=
  (∀ (f : List Byte) (e : Nat) (x y : Byte),
    decodeFrame false ((f.set (f.length - 2) x).set (f.length - 1) y) e = decodeFrame false f e) ∧
  (∀ (f : List Byte) (e : Nat) (ws : List Word), decodeFrame true f e = some ws ↔
    decodeFrame false f e = some ws ∧ f.getD (f.length - 2) 0 = 0x0D ∧ f.getD (f.length - 1) 0 = 0x0A)

/-- 20_memory.md R47: while VALID stays 1, the accepted frame and its words cannot change. -/
def Obligations.AcceptedFrameCannotBeAltered : Prop :=
  ∀ (i : Instr) (s t : State), s.Inv → s.valid = true → exec i s = .next t → t.valid = true →
    t.rxb = s.rxb ∧ t.explen = s.explen ∧ t.pcount = s.pcount ∧
    ∀ n : Nat, n < s.pcount.val → readPw t n = readPw s n

/-! ## Field decoder -/

/-- 43_field.md R150: sign recovery under both conventions, and where they differ. -/
def Obligations.SignRecoveryConventions : Prop :=
  (∀ v : Word, signed16 .literal v = if v.toNat > 32768 then (v.toNat : Int) - 65536 else v.toNat) ∧
  (∀ v : Word, signed16 .twos v = v.toInt) ∧
  (∀ v : Word, v ≠ 32768 → signed16 .literal v = signed16 .twos v) ∧
  signed16 .literal 32768 = 32768 ∧ signed16 .twos 32768 = -32768 ∧
  (∀ v : Word, -32767 ≤ signed16 .literal v ∧ signed16 .literal v ≤ 32768) ∧
  (∀ v : Word, -32768 ≤ signed16 .twos v ∧ signed16 .twos v ≤ 32767) ∧
  (∀ c : SignConv, signed16 c 0 = 0 ∧ signed16 c 100 = 100 ∧ signed16 c 65535 = -1)

/-- R152: FX packing is exact on its range, and every mantissa of the block lies in it. -/
def Obligations.FxPackingIsExact : Prop :=
  (∀ (k : BitVec 4) (m : Int), -524288 ≤ m → m ≤ 524287 →
    (fx k m).extractLsb' 20 4 = k ∧ ((fx k m).extractLsb' 0 20).toInt = m) ∧
  (∀ (c : SignConv) (g : Bool) (v : Word), -32768 ≤ mantissa c g v ∧ mantissa c g v ≤ 65535)

/-- R156: WORD. -/
def Obligations.WordAnswersARawWord : Prop :=
  (∀ i : Byte, encode (.word i) = 0x30000000 ||| (i.setWidth 32 <<< 16)) ∧
  (∀ (i : Byte) (s : State), s.valid = true → i.toNat < s.pcount.val →
    exec (.word i) s = .next { s with response := some ((readPw s i.toNat).setWidth 32) }) ∧
  (∀ (i : Byte) (s : State), s.valid = false → Raises (.word i) s .noPayload) ∧
  (∀ (i : Byte) (s : State), s.valid = true → s.pcount.val ≤ i.toNat → Raises (.word i) s .index) ∧
  OnlyOperandA 0x30

/-- R157: FIELD, for every exponent k and both kinds. -/
def Obligations.FieldAnswersAScaledWord : Prop :=
  (∀ (i : Byte) (g : Bool) (k : BitVec 4), encode (.field i g k) =
    0x31000000 ||| (i.setWidth 32 <<< 16) ||| ((BitVec.ofBool g).setWidth 32 <<< 4) ||| k.setWidth 32) ∧
  (∀ (i : Byte) (g : Bool) (k : BitVec 4) (s : State), s.valid = true → i.toNat < s.pcount.val →
    AnswersFx (.field i g k) s k (mantissa s.params.signConv g (readPw s i.toNat))) ∧
  (∀ (i : Byte) (g : Bool) (k : BitVec 4) (s : State), s.valid = false → Raises (.field i g k) s .noPayload) ∧
  (∀ (i : Byte) (g : Bool) (k : BitVec 4) (s : State), s.valid = true → s.pcount.val ≤ i.toNat →
    Raises (.field i g k) s .index) ∧
  (∀ (a : Byte) (b : BitVec 16), b.extractLsb' 5 11 ≠ 0 → RefusedAsIllegal (0x31#8 ++ a ++ b))

/-- R158: SIGN, in every state and under both conventions. -/
def Obligations.SignAnswersTheRecoveredValue : Prop :=
  (∀ v : Word, encode (.sign v) = 0x32000000 ||| v.setWidth 32) ∧
  (∀ (v : Word) (s : State), s.params.signConv = .literal →
    AnswersFx (.sign v) s 0 (if v.toNat > 32768 then (v.toNat : Int) - 65536 else v.toNat)) ∧
  (∀ (v : Word) (s : State), s.params.signConv = .twos →
    AnswersFx (.sign v) s 0 (if v.toNat ≥ 32768 then (v.toNat : Int) - 65536 else v.toNat)) ∧
  (∀ (a : Byte) (b : BitVec 16), a ≠ 0 → RefusedAsIllegal (0x32#8 ++ a ++ b))

/-- R159 with R154: BAL answers 1 exactly when bit 8+c of the word is 0. -/
def Obligations.BalAnswersTheBalancingFlag : Prop :=
  (∀ (i : Byte) (c : BitVec 2), encode (.bal i c) = 0x33000000 ||| (i.setWidth 32 <<< 16) ||| c.setWidth 32) ∧
  (∀ (i : Byte) (c : BitVec 2) (s : State), s.valid = true → i.toNat < s.pcount.val →
    exec (.bal i c) s =
      .next { s with response := some (if (readPw s i.toNat).getLsbD (8 + c.toNat) then 0 else 1) }) ∧
  (∀ (i : Byte) (c : BitVec 2) (s : State), s.valid = false → Raises (.bal i c) s .noPayload) ∧
  (∀ (i : Byte) (c : BitVec 2) (s : State), s.valid = true → s.pcount.val ≤ i.toNat → Raises (.bal i c) s .index) ∧
  (∀ (a : Byte) (b : BitVec 16), b.extractLsb' 2 14 ≠ 0 → RefusedAsIllegal (0x33#8 ++ a ++ b))

/-- R163 with the maps of R160 to R162: every field of every layout, the word count it needs, and its refusals. -/
def Obligations.LayoutAnswersItsFields : Prop :=
  (∀ (l : LayoutId) (j : Byte),
    encode (.layout l j) = 0x34000000 ||| (l.code.setWidth 32 <<< 16) ||| j.setWidth 32) ∧
  (LayoutId.volt.code = 0 ∧ LayoutId.temp.code = 1 ∧ LayoutId.soc.code = 2) ∧
  (∀ (l : LayoutId) (wc : Nat) (j : Byte) (w : Nat) (g : Bool) (k : BitVec 4), (l, wc, j, w, g, k) ∈ fxRows →
    ∀ s : State, s.valid = true → s.pcount.val = wc →
      AnswersFx (.layout l j) s k (mantissa s.params.signConv g (readPw s w))) ∧
  (∀ (c : Nat) (s : State), c < 4 → s.valid = true → s.pcount.val = 12 →
    exec (.layout .soc (BitVec.ofNat 8 (3 + c))) s =
      .next { s with response := some (if (readPw s 6).getLsbD (8 + c) then 0 else 1) }) ∧
  (∀ (l : LayoutId) (j : Byte) (s : State), (Instr.layout l j).WellFormed → s.valid = false →
    Raises (.layout l j) s .noPayload) ∧
  (∀ (l : LayoutId) (j : Byte) (s : State), (Instr.layout l j).WellFormed → s.valid = true →
    s.pcount.val ≠ (match l with | .volt => 9 | .temp => 7 | .soc => 12) → Raises (.layout l j) s .layout) ∧
  (∀ (a : Byte) (b : BitVec 16), LayoutOutOfRange 0x34 a.toNat b.toNat ∨ 256 ≤ b.toNat →
    RefusedAsIllegal (0x34#8 ++ a ++ b))

/-- R166: each LAYOUT row equals a generic command on the same payload. -/
def Obligations.LayoutRowsEqualGenericCommands : Prop :=
  (∀ (l : LayoutId) (wc : Nat) (j : Byte) (w : Nat) (g : Bool) (k : BitVec 4), (l, wc, j, w, g, k) ∈ fxRows →
    ∀ s : State, s.valid = true → s.pcount.val = wc → exec (.layout l j) s = exec (.field (BitVec.ofNat 8 w) g k) s) ∧
  (∀ (c : BitVec 2) (s : State), s.valid = true → s.pcount.val = 12 →
    exec (.layout .soc (3 + c.setWidth 8)) s = exec (.bal 6 c) s)

/-- R164: PLEN, and that it answers what the last RX_CHECK answered, 0 after RX_BEGIN or reset. -/
def Obligations.PlenAnswersThePayloadImage : Prop :=
  encode .plen = 0x35000000 ∧
  (∀ s : State, exec .plen s = .next { s with
    response := some (0#8 ++ BitVec.ofBool s.valid ++ 0#15 ++ BitVec.ofNat 8 s.pcount.val) }) ∧
  (∀ s t : State, exec .rxCheck s = .next t → exec .plen t = .next t) ∧
  (∀ (e : Byte) (s t : State), exec (.rxBegin e) s = .next t → exec .plen t = .next { t with response := some 0 }) ∧
  (∀ p : Params, exec .plen (State.resetWith p) = .next { State.resetWith p with response := some 0 }) ∧
  NoOperands 0x35

/-! ## System commands -/

/-- 44_system.md R190: NOP. -/
def Obligations.NopDoesNothing : Prop :=
  encode .nop = 0x00000000 ∧
  (∀ s : State, exec .nop s = .next { s with response := some 0 }) ∧
  NoOperands 0x00

/-- R191 with the layout of 10_state.md R32: every field of the STATUS image, and its value right after reset. -/
def Obligations.StatusMirrorsTheComponents : Prop :=
  encode .status = 0xF0000000 ∧
  (∀ s : State, ∃ rw : ResponseWord, exec .status s = .next { s with response := some rw } ∧
    rw.getLsbD 0 = s.valid ∧
    (rw.extractLsb' 1 2).toNat = (match s.txst with | .idle => 0 | .opened => 1 | .done => 2) ∧
    rw.getLsbD 3 = (match s.rxst with | .idle => false | .opened => true) ∧
    (rw.extractLsb' 4 4).toNat = (match s.lasterr with
      | .ok => 0 | .illegal => 1 | .seq => 2 | .full => 3 | .noPayload => 4 | .index => 5 | .layout => 6) ∧
    rw.getLsbD 8 = s.errseen ∧
    rw.getLsbD 9 = (match s.params.signConv with | .literal => false | .twos => true) ∧
    rw.extractLsb' 10 22 = 0) ∧
  (∀ p : Params, exec .status (State.resetWith p) = .next { State.resetWith p with
    response := some (match p.signConv with | .literal => 0x00000000 | .twos => 0x00000200) }) ∧
  NoOperands 0xF0

/-- R192: SRST leaves exactly the power-on state of the same block, with the response 0; the words still on the port stay (log
entry 1). PW is among what it leaves: R35 leaves PW's value unspecified, and the model's power-on value of it is the model's own
choice (DESIGN CHOICE, log entry 5). That no other command clears the error state is SuccessesKeepTheErrorState. -/
def Obligations.SrstLeavesThePowerOnState : Prop :=
  encode .srst = 0xFF000000 ∧
  (∀ s : State, exec .srst s =
    .next { State.resetWith s.params with commands := s.commands, response := some 0 }) ∧
  NoOperands 0xFF

/-! ## Errors and the whole machine -/

/-- 60_exceptions.md R201: a failing command changes LASTERR and ERRSEEN, answers DATA = 0, and nothing else. -/
def Obligations.FailuresChangeOnlyTheErrorState : Prop :=
  ∀ (s t : State) (cw : CommandWord) (rest : List CommandWord) (rw : ResponseWord),
    s.commands = cw :: rest → step s = .next t → t.response = some rw → rw.extractLsb' 24 8 ≠ 0 →
    rw.extractLsb' 0 24 = 0 ∧
    ∃ st : Status, rw.extractLsb' 24 8 = st.code ∧
      t = { s with commands := rest, lasterr := st, errseen := true, response := some rw }

/-- R202: a successful command leaves LASTERR and ERRSEEN, except SRST, which clears them. -/
def Obligations.SuccessesKeepTheErrorState : Prop :=
  ∀ (s t : State) (cw : CommandWord) (rest : List CommandWord) (rw : ResponseWord),
    s.commands = cw :: rest → step s = .next t → t.response = some rw → rw.extractLsb' 24 8 = 0 →
    (cw ≠ 0xFF000000 → t.lasterr = s.lasterr ∧ t.errseen = s.errseen) ∧
    (cw = 0xFF000000 → t.lasterr = .ok ∧ t.errseen = false)

/-- R200, R203 and R204: the status of every word in every state, the first cause in the stated order. -/
def Obligations.EveryStatusIsTheFirstCause : Prop :=
  ∀ (s : State) (cw : CommandWord) (rest : List CommandWord), s.commands = cw :: rest →
    ∃ (t : State) (rw : ResponseWord), step s = .next t ∧ t.response = some rw ∧
      (IllegalWord cw → (rw.extractLsb' 24 8).toNat = 1) ∧
      (¬ IllegalWord cw → ∃ i : Instr, decodeCW cw = .ok i ∧ (rw.extractLsb' 24 8).toNat = statusOf s i)

/-- 10_state.md R20's column "written by", with R192 for SRST and R33 for the error state: no other command writes a component. -/
def Obligations.OnlyTheNamedCommandsWrite : Prop :=
  ∀ (i : Instr) (s t : State), exec i s = .next t →
    (t.crc ≠ s.crc → i.opcode ∈ [0x01, 0x02, 0xFF]) ∧
    (t.txb ≠ s.txb → i.opcode ∈ [0x10, 0x11, 0x12, 0xFF]) ∧
    (t.txst ≠ s.txst → i.opcode ∈ [0x10, 0x12, 0xFF]) ∧
    (t.rxb ≠ s.rxb → i.opcode ∈ [0x20, 0x21, 0xFF]) ∧
    (t.explen ≠ s.explen → i.opcode ∈ [0x20, 0xFF]) ∧
    (t.rxst ≠ s.rxst → i.opcode ∈ [0x20, 0xFF]) ∧
    (t.valid ≠ s.valid → i.opcode ∈ [0x20, 0x22, 0xFF]) ∧
    (t.pcount ≠ s.pcount → i.opcode ∈ [0x20, 0x22, 0xFF]) ∧
    (t.pw ≠ s.pw → i.opcode ∈ [0x22, 0xFF]) ∧
    (t.lasterr ≠ s.lasterr ∨ t.errseen ≠ s.errseen →
      i.opcode = 0xFF ∨ ∃ rw : ResponseWord, t.response = some rw ∧ rw.extractLsb' 24 8 ≠ 0) ∧
    t.params = s.params ∧ t.commands = s.commands

/-- 20_memory.md R49: a read command that succeeds changes no state and answers the same again; one that fails changes only the
error state; and RX_CHECK is idempotent: as long as RXB and EXPLEN are the same, a later one gives the same VALID, PCOUNT and
readable words. -/
def Obligations.ReadCommandsChangeNothing : Prop :=
  (∀ (i : Instr) (s : State), readsOnly i = true → i.WellFormed →
    ∃ t : State, exec i s = .next t ∧
      ((t = { s with response := t.response } ∧ exec i t = .next t) ∨ ∃ st : Status, st ≠ .ok ∧ Raises i s st)) ∧
  (∀ s t u : State, exec .rxCheck s = .next t → u.rxb = t.rxb → u.explen = t.explen → u.params = t.params →
    ∃ v : State, exec .rxCheck u = .next v ∧ v.valid = t.valid ∧ v.pcount = t.pcount ∧ v.response = t.response ∧
      ∀ n : Nat, n < t.pcount.val → readPw v n = readPw t n)

/-- 10_state.md R36: no response and no later state depends on a word of PW that no command may read. -/
def Obligations.UnreadableWordsAreUnobservable : Prop :=
  ∀ s s' t : State, State.SameObservable s t → step s = .next s' →
    ∃ t' : State, step t = .next t' ∧ State.SameObservable s' t'
end

