-- ==== Sys2Proof/Laws/PerInstr.lean ====
section
/-!
SUPPORT. Facts about a command as text, one lemma per constructor.
-/

namespace Sys2Proof.Laws.EncodeFields

/-- The three fields of a command's word are its opcode and its two operands (30_encoding.md R60). -/
def Statement (i : Instr) : Prop :=
  opField (encode i) = i.opcode ∧ aField (encode i) = i.operandA ∧ bField (encode i) = i.operandB

/-- The bits of `{OP, A, B}`: B in 15:0, A in 23:16, OP in 31:24 (30_encoding.md R60). -/
theorem getLsbD_append (op a : Byte) (b : BitVec 16) (n : Nat) :
    BitVec.getLsbD (w := 32) (op ++ a ++ b) n =
      if n < 16 then b.getLsbD n else if n - 16 < 8 then a.getLsbD (n - 16) else op.getLsbD (n - 16 - 8) := by
  refine (BitVec.getLsbD_append (x := op ++ a) (y := b) (i := n)).trans ?_
  split
  · rfl
  · exact (BitVec.getLsbD_append (x := op) (y := a) (i := n - 16)).trans rfl

/-- The fields of `{OP, A, B}`. -/
theorem fields_of_append (op a : Byte) (b : BitVec 16) :
    opField (op ++ a ++ b) = op ∧ aField (op ++ a ++ b) = a ∧ bField (op ++ a ++ b) = b := by
  refine ⟨?_, ?_, ?_⟩ <;> apply BitVec.eq_of_getLsbD_eq <;> intro n hn
  · rw [opField, BitVec.getLsbD_extractLsb', getLsbD_append, if_neg (by omega), if_neg (by omega)]
    simp [hn, show 24 + n - 16 - 8 = n by omega]
  · rw [aField, BitVec.getLsbD_extractLsb', getLsbD_append, if_neg (by omega), if_pos (by omega)]
    simp [hn]
  · rw [bField, BitVec.getLsbD_extractLsb', getLsbD_append, if_pos (by omega)]
    simp [hn]

theorem nop : Statement .nop := fields_of_append _ _ _

theorem crcInit : Statement .crcInit := fields_of_append _ _ _

theorem crcByte (b : Byte) : Statement (.crcByte b) := fields_of_append _ _ _

theorem crcRead : Statement .crcRead := fields_of_append _ _ _

theorem txBegin (a : Byte) : Statement (.txBegin a) := fields_of_append _ _ _

theorem txByte (b : Byte) : Statement (.txByte b) := fields_of_append _ _ _

theorem txEnd : Statement .txEnd := fields_of_append _ _ _

theorem txRead (i : Byte) : Statement (.txRead i) := fields_of_append _ _ _

theorem txLen : Statement .txLen := fields_of_append _ _ _

theorem rxBegin (e : Byte) : Statement (.rxBegin e) := fields_of_append _ _ _

theorem rxByte (b : Byte) : Statement (.rxByte b) := fields_of_append _ _ _

theorem rxCheck : Statement .rxCheck := fields_of_append _ _ _

theorem rxRead (i : Byte) : Statement (.rxRead i) := fields_of_append _ _ _

theorem rxLen : Statement .rxLen := fields_of_append _ _ _

theorem word (i : Byte) : Statement (.word i) := fields_of_append _ _ _

theorem field (i : Byte) (s : Bool) (k : BitVec 4) : Statement (.field i s k) := fields_of_append _ _ _

theorem sign (v : Word) : Statement (.sign v) := fields_of_append _ _ _

theorem bal (i : Byte) (c : BitVec 2) : Statement (.bal i c) := fields_of_append _ _ _

theorem layout (l : LayoutId) (j : Byte) : Statement (.layout l j) := fields_of_append _ _ _

theorem plen : Statement .plen := fields_of_append _ _ _

theorem status : Statement .status := fields_of_append _ _ _

theorem srst : Statement .srst := fields_of_append _ _ _

end Sys2Proof.Laws.EncodeFields
end

