-- ==== Sys2Proof/Laws/Decode.lean ====
section
/-!
SUPPORT. What the decoder answers on a word `{OP, A, B}`, one lemma per opcode of 30_encoding.md R65, and the bits of such words.
-/

namespace Sys2Proof.Laws

open Sys2Proof.Laws.EncodeFields

/-- Every command word is its three fields (R60). -/
theorem word_eq_fields (cw : CommandWord) : cw = opField cw ++ aField cw ++ bField cw := by
  apply BitVec.eq_of_getLsbD_eq
  intro n hn
  rw [getLsbD_append]
  simp only [opField, aField, bField, BitVec.getLsbD_extractLsb']
  split
  · simp [*]
  · split
    · rw [decide_eq_true (by omega), Bool.true_and]
      congr 1
      omega
    · rw [decide_eq_true (by omega), Bool.true_and]
      congr 1
      omega

/-- Masking a word masks each field. -/
theorem and_of_fields (op a opm am : Byte) (b bm : BitVec 16) :
    ((op ++ a ++ b : CommandWord) &&& (opm ++ am ++ bm)) = ((op &&& opm) ++ (a &&& am) ++ (b &&& bm) : CommandWord) := by
  apply BitVec.eq_of_getLsbD_eq
  intro n hn
  rw [BitVec.getLsbD_and, getLsbD_append, getLsbD_append, getLsbD_append]
  split
  · simp
  · split <;> simp

/-- Two words are equal just when their fields are. -/
theorem fields_inj (op a op' a' : Byte) (b b' : BitVec 16) :
    ((op ++ a ++ b : CommandWord) = op' ++ a' ++ b') ↔ op = op' ∧ a = a' ∧ b = b' := by
  constructor
  · intro h
    obtain ⟨h1, h2, h3⟩ := fields_of_append op a b
    obtain ⟨k1, k2, k3⟩ := fields_of_append op' a' b'
    rw [h] at h1 h2 h3
    exact ⟨h1.symm.trans k1, h2.symm.trans k2, h3.symm.trans k3⟩
  · rintro ⟨rfl, rfl, rfl⟩
    rfl

/-- A 16-bit mask of all bits from k up is met exactly when those bits are 0. -/
theorem and_high_mask_eq_zero_iff (b m : BitVec 16) (k n : Nat) (hm : ∀ i, i < 16 → m.getLsbD i = decide (k ≤ i))
    (hn : k + n = 16) : b &&& m = 0 ↔ b.extractLsb' k n = 0 := by
  constructor
  · intro h
    apply BitVec.eq_of_getLsbD_eq
    intro i hi
    have := congrArg (fun z => z.getLsbD (k + i)) h
    simp only [BitVec.getLsbD_and, hm _ (show k + i < 16 by omega)] at this
    simpa [BitVec.getLsbD_extractLsb', hi] using this
  · intro h
    apply BitVec.eq_of_getLsbD_eq
    intro i hi
    rw [BitVec.getLsbD_and, hm i hi]
    by_cases hk : k ≤ i
    · have := congrArg (fun z => z.getLsbD (i - k)) h
      simp only [BitVec.getLsbD_extractLsb'] at this
      rw [decide_eq_true (by omega), Bool.true_and, show k + (i - k) = i by omega] at this
      simp [this]
    · simp [hk]

/-- The decoder on `{OP, A, B}` where OP has a row in R65's table. -/
theorem decodeCW_of_row (op a : Byte) (b : BitVec 16) (r : OpRow)
    (hrow : opTable.find? (fun r => r.code == (op ++ 0#24 : CommandWord)) = some r) :
    decodeCW (op ++ a ++ b) =
      if ((op ++ a ++ b : CommandWord) &&& r.mask) ≠ r.code then .error .field
      else
        match r.command a b with
        | none => .error .layout
        | some i => .ok i := by
  obtain ⟨h1, h2, h3⟩ := fields_of_append op a b
  unfold decodeCW
  rw [h1, h2, h3, hrow] <;> rfl

/-- The decoder on `{OP, A, B}` with the mask test taken field by field. -/
theorem decodeCW_of_row_fields (op a am ac : Byte) (b bm bc : BitVec 16) (r : OpRow)
    (hrow : opTable.find? (fun r => r.code == (op ++ 0#24 : CommandWord)) = some r)
    (hm : r.mask = 0xFF#8 ++ am ++ bm) (hc : r.code = op ++ ac ++ bc) :
    decodeCW (op ++ a ++ b) =
      if a &&& am = ac ∧ b &&& bm = bc then
        match r.command a b with
        | none => .error .layout
        | some i => .ok i
      else .error .field := by
  have hop : op &&& 0xFF#8 = op := BitVec.and_allOnes
  have hmask : ((op ++ a ++ b : CommandWord) &&& r.mask) = r.code ↔ a &&& am = ac ∧ b &&& bm = bc := by
    rw [hm, hc, and_of_fields, fields_inj, hop]
    exact ⟨And.right, fun h => ⟨rfl, h⟩⟩
  rw [decodeCW_of_row op a b r hrow]
  by_cases h : a &&& am = ac ∧ b &&& bm = bc
  · rw [if_neg (not_not.2 (hmask.2 h)), if_pos h]
  · rw [if_pos (mt hmask.1 h), if_neg h]

theorem and_ff (a : Byte) : a &&& 0xFF#8 = a := BitVec.and_allOnes

theorem and_ffff (b : BitVec 16) : b &&& 0xFFFF#16 = b := BitVec.and_allOnes

theorem mask_formatN : (0xFFFFFFFF : CommandWord) = 0xFF#8 ++ 0xFF#8 ++ 0xFFFF#16 := by decide

theorem mask_formatA8 : (0xFF00FFFF : CommandWord) = 0xFF#8 ++ 0#8 ++ 0xFFFF#16 := by decide

/-- Format N (R61): the command, unless A or B is not zero. -/
theorem decodeCW_formatN (op a : Byte) (b : BitVec 16) (mn : String) (i : Instr)
    (hrow : opTable.find? (fun r => r.code == (op ++ 0#24 : CommandWord)) =
      some ⟨mn, op ++ 0#8 ++ 0#16, 0xFFFFFFFF, fun _ _ => some i⟩) :
    decodeCW (op ++ a ++ b) = if a = 0 ∧ b = 0 then .ok i else .error .field := by
  rw [decodeCW_of_row_fields op a 0xFF#8 0 b 0xFFFF#16 0 _ hrow mask_formatN rfl, and_ff, and_ffff]

/-- Format A8 (R61): the command of A, unless B is not zero. -/
theorem decodeCW_formatA8 (op a : Byte) (b : BitVec 16) (mn : String) (f : Byte → Instr)
    (hrow : opTable.find? (fun r => r.code == (op ++ 0#24 : CommandWord)) =
      some ⟨mn, op ++ 0#8 ++ 0#16, 0xFF00FFFF, fun a _ => some (f a)⟩) :
    decodeCW (op ++ a ++ b) = if b = 0 then .ok (f a) else .error .field := by
  rw [decodeCW_of_row_fields op a 0 0 b 0xFFFF#16 0 _ hrow mask_formatA8 rfl, and_ffff]
  simp

theorem decodeCW_nop (a : Byte) (b : BitVec 16) :
    decodeCW (0x00#8 ++ a ++ b) = if a = 0 ∧ b = 0 then .ok .nop else .error .field :=
  decodeCW_formatN _ a b _ _ rfl

theorem decodeCW_crcInit (a : Byte) (b : BitVec 16) :
    decodeCW (0x01#8 ++ a ++ b) = if a = 0 ∧ b = 0 then .ok .crcInit else .error .field :=
  decodeCW_formatN _ a b _ _ rfl

theorem decodeCW_crcRead (a : Byte) (b : BitVec 16) :
    decodeCW (0x03#8 ++ a ++ b) = if a = 0 ∧ b = 0 then .ok .crcRead else .error .field :=
  decodeCW_formatN _ a b _ _ rfl

theorem decodeCW_txEnd (a : Byte) (b : BitVec 16) :
    decodeCW (0x12#8 ++ a ++ b) = if a = 0 ∧ b = 0 then .ok .txEnd else .error .field :=
  decodeCW_formatN _ a b _ _ rfl

theorem decodeCW_txLen (a : Byte) (b : BitVec 16) :
    decodeCW (0x14#8 ++ a ++ b) = if a = 0 ∧ b = 0 then .ok .txLen else .error .field :=
  decodeCW_formatN _ a b _ _ rfl

theorem decodeCW_rxCheck (a : Byte) (b : BitVec 16) :
    decodeCW (0x22#8 ++ a ++ b) = if a = 0 ∧ b = 0 then .ok .rxCheck else .error .field :=
  decodeCW_formatN _ a b _ _ rfl

theorem decodeCW_rxLen (a : Byte) (b : BitVec 16) :
    decodeCW (0x24#8 ++ a ++ b) = if a = 0 ∧ b = 0 then .ok .rxLen else .error .field :=
  decodeCW_formatN _ a b _ _ rfl

theorem decodeCW_plen (a : Byte) (b : BitVec 16) :
    decodeCW (0x35#8 ++ a ++ b) = if a = 0 ∧ b = 0 then .ok .plen else .error .field :=
  decodeCW_formatN _ a b _ _ rfl

theorem decodeCW_status (a : Byte) (b : BitVec 16) :
    decodeCW (0xF0#8 ++ a ++ b) = if a = 0 ∧ b = 0 then .ok .status else .error .field :=
  decodeCW_formatN _ a b _ _ rfl

theorem decodeCW_srst (a : Byte) (b : BitVec 16) :
    decodeCW (0xFF#8 ++ a ++ b) = if a = 0 ∧ b = 0 then .ok .srst else .error .field :=
  decodeCW_formatN _ a b _ _ rfl

theorem decodeCW_crcByte (a : Byte) (b : BitVec 16) :
    decodeCW (0x02#8 ++ a ++ b) = if b = 0 then .ok (.crcByte a) else .error .field :=
  decodeCW_formatA8 _ a b _ _ rfl

theorem decodeCW_txBegin (a : Byte) (b : BitVec 16) :
    decodeCW (0x10#8 ++ a ++ b) = if b = 0 then .ok (.txBegin a) else .error .field :=
  decodeCW_formatA8 _ a b _ _ rfl

theorem decodeCW_txByte (a : Byte) (b : BitVec 16) :
    decodeCW (0x11#8 ++ a ++ b) = if b = 0 then .ok (.txByte a) else .error .field :=
  decodeCW_formatA8 _ a b _ _ rfl

theorem decodeCW_txRead (a : Byte) (b : BitVec 16) :
    decodeCW (0x13#8 ++ a ++ b) = if b = 0 then .ok (.txRead a) else .error .field :=
  decodeCW_formatA8 _ a b _ _ rfl

theorem decodeCW_rxBegin (a : Byte) (b : BitVec 16) :
    decodeCW (0x20#8 ++ a ++ b) = if b = 0 then .ok (.rxBegin a) else .error .field :=
  decodeCW_formatA8 _ a b _ _ rfl

theorem decodeCW_rxByte (a : Byte) (b : BitVec 16) :
    decodeCW (0x21#8 ++ a ++ b) = if b = 0 then .ok (.rxByte a) else .error .field :=
  decodeCW_formatA8 _ a b _ _ rfl

theorem decodeCW_rxRead (a : Byte) (b : BitVec 16) :
    decodeCW (0x23#8 ++ a ++ b) = if b = 0 then .ok (.rxRead a) else .error .field :=
  decodeCW_formatA8 _ a b _ _ rfl

theorem decodeCW_word (a : Byte) (b : BitVec 16) :
    decodeCW (0x30#8 ++ a ++ b) = if b = 0 then .ok (.word a) else .error .field :=
  decodeCW_formatA8 _ a b _ _ rfl

/-- Format AF (R61): B[15:5] must be zero. -/
theorem decodeCW_field (a : Byte) (b : BitVec 16) :
    decodeCW (0x31#8 ++ a ++ b) =
      if b.extractLsb' 5 11 = 0 then .ok (.field a (b.getLsbD 4) (b.extractLsb' 0 4)) else .error .field := by
  rw [decodeCW_of_row_fields 0x31#8 a 0#8 0#8 b 0xFFE0#16 0 _ rfl (by decide) (by decide)]
  have h := and_high_mask_eq_zero_iff b 0xFFE0#16 5 11 (by decide) rfl
  simp only [BitVec.and_zero, true_and, h]

/-- Format B16 (R61): A must be zero. -/
theorem decodeCW_sign (a : Byte) (b : BitVec 16) :
    decodeCW (0x32#8 ++ a ++ b) = if a = 0 then .ok (.sign b) else .error .field := by
  rw [decodeCW_of_row_fields 0x32#8 a 0xFF#8 0 b 0 0 _ rfl (by decide) (by decide), and_ff]
  simp

/-- Format AC (R61): B[15:2] must be zero. -/
theorem decodeCW_bal (a : Byte) (b : BitVec 16) :
    decodeCW (0x33#8 ++ a ++ b) =
      if b.extractLsb' 2 14 = 0 then .ok (.bal a (b.extractLsb' 0 2)) else .error .field := by
  rw [decodeCW_of_row_fields 0x33#8 a 0#8 0#8 b 0xFFFC#16 0 _ rfl (by decide) (by decide)]
  have h := and_high_mask_eq_zero_iff b 0xFFFC#16 2 14 (by decide) rfl
  simp only [BitVec.and_zero, true_and, h]

/-- Format AJ (R61): B[15:8] must be zero, and the layout and field must exist. -/
theorem decodeCW_layout (a : Byte) (b : BitVec 16) :
    decodeCW (0x34#8 ++ a ++ b) =
      if b.extractLsb' 8 8 = 0 then
        match layoutCommand a b with
        | none => .error .layout
        | some i => .ok i
      else .error .field := by
  rw [decodeCW_of_row_fields 0x34#8 a 0#8 0#8 b 0xFF00#16 0 _ rfl (by decide) (by decide)]
  have h := and_high_mask_eq_zero_iff b 0xFF00#16 8 8 (by decide) rfl
  simp only [BitVec.and_zero, true_and, h]

end Sys2Proof.Laws
end

