-- ==== Sys2Proof/Laws/State.lean ====
section
/-!
SUPPORT. One lemma per field for each named update of State, so that no proof unfolds a record update.
-/

namespace Sys2Proof.Machine

@[simp] theorem appendTxb_crc (bs : List Byte) (s : State) : (appendTxb bs s).crc = s.crc := rfl

@[simp] theorem appendTxb_txb (bs : List Byte) (s : State) : (appendTxb bs s).txb = s.txb ++ bs := rfl

@[simp] theorem appendTxb_txst (bs : List Byte) (s : State) : (appendTxb bs s).txst = s.txst := rfl

@[simp] theorem appendTxb_rxb (bs : List Byte) (s : State) : (appendTxb bs s).rxb = s.rxb := rfl

@[simp] theorem appendTxb_explen (bs : List Byte) (s : State) : (appendTxb bs s).explen = s.explen := rfl

@[simp] theorem appendTxb_rxst (bs : List Byte) (s : State) : (appendTxb bs s).rxst = s.rxst := rfl

@[simp] theorem appendTxb_valid (bs : List Byte) (s : State) : (appendTxb bs s).valid = s.valid := rfl

@[simp] theorem appendTxb_pcount (bs : List Byte) (s : State) : (appendTxb bs s).pcount = s.pcount := rfl

@[simp] theorem appendTxb_pw (bs : List Byte) (s : State) : (appendTxb bs s).pw = s.pw := rfl

@[simp] theorem appendTxb_lasterr (bs : List Byte) (s : State) : (appendTxb bs s).lasterr = s.lasterr := rfl

@[simp] theorem appendTxb_errseen (bs : List Byte) (s : State) : (appendTxb bs s).errseen = s.errseen := rfl

@[simp] theorem appendTxb_params (bs : List Byte) (s : State) : (appendTxb bs s).params = s.params := rfl

@[simp] theorem appendTxb_commands (bs : List Byte) (s : State) : (appendTxb bs s).commands = s.commands := rfl

@[simp] theorem appendTxb_response (bs : List Byte) (s : State) : (appendTxb bs s).response = s.response := rfl

@[simp] theorem appendRxb_crc (b : Byte) (s : State) : (appendRxb b s).crc = s.crc := rfl

@[simp] theorem appendRxb_txb (b : Byte) (s : State) : (appendRxb b s).txb = s.txb := rfl

@[simp] theorem appendRxb_txst (b : Byte) (s : State) : (appendRxb b s).txst = s.txst := rfl

@[simp] theorem appendRxb_rxb (b : Byte) (s : State) : (appendRxb b s).rxb = s.rxb ++ [b] := rfl

@[simp] theorem appendRxb_explen (b : Byte) (s : State) : (appendRxb b s).explen = s.explen := rfl

@[simp] theorem appendRxb_rxst (b : Byte) (s : State) : (appendRxb b s).rxst = s.rxst := rfl

@[simp] theorem appendRxb_valid (b : Byte) (s : State) : (appendRxb b s).valid = s.valid := rfl

@[simp] theorem appendRxb_pcount (b : Byte) (s : State) : (appendRxb b s).pcount = s.pcount := rfl

@[simp] theorem appendRxb_pw (b : Byte) (s : State) : (appendRxb b s).pw = s.pw := rfl

@[simp] theorem appendRxb_lasterr (b : Byte) (s : State) : (appendRxb b s).lasterr = s.lasterr := rfl

@[simp] theorem appendRxb_errseen (b : Byte) (s : State) : (appendRxb b s).errseen = s.errseen := rfl

@[simp] theorem appendRxb_params (b : Byte) (s : State) : (appendRxb b s).params = s.params := rfl

@[simp] theorem appendRxb_commands (b : Byte) (s : State) : (appendRxb b s).commands = s.commands := rfl

@[simp] theorem appendRxb_response (b : Byte) (s : State) : (appendRxb b s).response = s.response := rfl

@[simp] theorem putCommand_crc (cw : CommandWord) (s : State) : (putCommand cw s).crc = s.crc := rfl

@[simp] theorem putCommand_txb (cw : CommandWord) (s : State) : (putCommand cw s).txb = s.txb := rfl

@[simp] theorem putCommand_txst (cw : CommandWord) (s : State) : (putCommand cw s).txst = s.txst := rfl

@[simp] theorem putCommand_rxb (cw : CommandWord) (s : State) : (putCommand cw s).rxb = s.rxb := rfl

@[simp] theorem putCommand_explen (cw : CommandWord) (s : State) : (putCommand cw s).explen = s.explen := rfl

@[simp] theorem putCommand_rxst (cw : CommandWord) (s : State) : (putCommand cw s).rxst = s.rxst := rfl

@[simp] theorem putCommand_valid (cw : CommandWord) (s : State) : (putCommand cw s).valid = s.valid := rfl

@[simp] theorem putCommand_pcount (cw : CommandWord) (s : State) : (putCommand cw s).pcount = s.pcount := rfl

@[simp] theorem putCommand_pw (cw : CommandWord) (s : State) : (putCommand cw s).pw = s.pw := rfl

@[simp] theorem putCommand_lasterr (cw : CommandWord) (s : State) : (putCommand cw s).lasterr = s.lasterr := rfl

@[simp] theorem putCommand_errseen (cw : CommandWord) (s : State) : (putCommand cw s).errseen = s.errseen := rfl

@[simp] theorem putCommand_params (cw : CommandWord) (s : State) : (putCommand cw s).params = s.params := rfl

@[simp] theorem putCommand_commands (cw : CommandWord) (s : State) : (putCommand cw s).commands = cw :: s.commands := rfl

@[simp] theorem putCommand_response (cw : CommandWord) (s : State) : (putCommand cw s).response = s.response := rfl

@[simp] theorem resetBlock_crc (s : State) : (resetBlock s).crc = 0xFFFF := rfl

@[simp] theorem resetBlock_txb (s : State) : (resetBlock s).txb = [] := rfl

@[simp] theorem resetBlock_txst (s : State) : (resetBlock s).txst = .idle := rfl

@[simp] theorem resetBlock_rxb (s : State) : (resetBlock s).rxb = [] := rfl

@[simp] theorem resetBlock_explen (s : State) : (resetBlock s).explen = 0 := rfl

@[simp] theorem resetBlock_rxst (s : State) : (resetBlock s).rxst = .idle := rfl

@[simp] theorem resetBlock_valid (s : State) : (resetBlock s).valid = false := rfl

@[simp] theorem resetBlock_pcount (s : State) : (resetBlock s).pcount = 0 := rfl

@[simp] theorem resetBlock_pw (s : State) : (resetBlock s).pw = Vector.replicate 124 0 := rfl

@[simp] theorem resetBlock_lasterr (s : State) : (resetBlock s).lasterr = .ok := rfl

@[simp] theorem resetBlock_errseen (s : State) : (resetBlock s).errseen = false := rfl

@[simp] theorem resetBlock_params (s : State) : (resetBlock s).params = s.params := rfl

@[simp] theorem resetBlock_commands (s : State) : (resetBlock s).commands = s.commands := rfl

@[simp] theorem resetBlock_response (s : State) : (resetBlock s).response = s.response := rfl

@[simp] theorem resetWith_crc (p : Params) : (State.resetWith p).crc = 0xFFFF := rfl

@[simp] theorem resetWith_txb (p : Params) : (State.resetWith p).txb = [] := rfl

@[simp] theorem resetWith_txst (p : Params) : (State.resetWith p).txst = .idle := rfl

@[simp] theorem resetWith_rxb (p : Params) : (State.resetWith p).rxb = [] := rfl

@[simp] theorem resetWith_explen (p : Params) : (State.resetWith p).explen = 0 := rfl

@[simp] theorem resetWith_rxst (p : Params) : (State.resetWith p).rxst = .idle := rfl

@[simp] theorem resetWith_valid (p : Params) : (State.resetWith p).valid = false := rfl

@[simp] theorem resetWith_pcount (p : Params) : (State.resetWith p).pcount = 0 := rfl

@[simp] theorem resetWith_pw (p : Params) : (State.resetWith p).pw = Vector.replicate 124 0 := rfl

@[simp] theorem resetWith_lasterr (p : Params) : (State.resetWith p).lasterr = .ok := rfl

@[simp] theorem resetWith_errseen (p : Params) : (State.resetWith p).errseen = false := rfl

@[simp] theorem resetWith_params (p : Params) : (State.resetWith p).params = p := rfl

@[simp] theorem resetWith_commands (p : Params) : (State.resetWith p).commands = [] := rfl

@[simp] theorem resetWith_response (p : Params) : (State.resetWith p).response = none := rfl

@[simp] theorem latchPayload_some_crc (ws : List Word) (s : State) : (latchPayload (some ws) s).crc = s.crc := rfl

@[simp] theorem latchPayload_some_txb (ws : List Word) (s : State) : (latchPayload (some ws) s).txb = s.txb := rfl

@[simp] theorem latchPayload_some_txst (ws : List Word) (s : State) : (latchPayload (some ws) s).txst = s.txst := rfl

@[simp] theorem latchPayload_some_rxb (ws : List Word) (s : State) : (latchPayload (some ws) s).rxb = s.rxb := rfl

@[simp] theorem latchPayload_some_explen (ws : List Word) (s : State) : (latchPayload (some ws) s).explen = s.explen := rfl

@[simp] theorem latchPayload_some_rxst (ws : List Word) (s : State) : (latchPayload (some ws) s).rxst = s.rxst := rfl

@[simp] theorem latchPayload_some_valid (ws : List Word) (s : State) : (latchPayload (some ws) s).valid = true := rfl

@[simp] theorem latchPayload_some_pcount (ws : List Word) (s : State) : (latchPayload (some ws) s).pcount = Fin.ofNat 125 ws.length := rfl

@[simp] theorem latchPayload_some_pw (ws : List Word) (s : State) : (latchPayload (some ws) s).pw = latchWords ws s.pw := rfl

@[simp] theorem latchPayload_some_lasterr (ws : List Word) (s : State) : (latchPayload (some ws) s).lasterr = s.lasterr := rfl

@[simp] theorem latchPayload_some_errseen (ws : List Word) (s : State) : (latchPayload (some ws) s).errseen = s.errseen := rfl

@[simp] theorem latchPayload_some_params (ws : List Word) (s : State) : (latchPayload (some ws) s).params = s.params := rfl

@[simp] theorem latchPayload_some_commands (ws : List Word) (s : State) : (latchPayload (some ws) s).commands = s.commands := rfl

@[simp] theorem latchPayload_some_response (ws : List Word) (s : State) : (latchPayload (some ws) s).response = s.response := rfl

@[simp] theorem latchPayload_none_crc (s : State) : (latchPayload none s).crc = s.crc := rfl

@[simp] theorem latchPayload_none_txb (s : State) : (latchPayload none s).txb = s.txb := rfl

@[simp] theorem latchPayload_none_txst (s : State) : (latchPayload none s).txst = s.txst := rfl

@[simp] theorem latchPayload_none_rxb (s : State) : (latchPayload none s).rxb = s.rxb := rfl

@[simp] theorem latchPayload_none_explen (s : State) : (latchPayload none s).explen = s.explen := rfl

@[simp] theorem latchPayload_none_rxst (s : State) : (latchPayload none s).rxst = s.rxst := rfl

@[simp] theorem latchPayload_none_valid (s : State) : (latchPayload none s).valid = false := rfl

@[simp] theorem latchPayload_none_pcount (s : State) : (latchPayload none s).pcount = 0 := rfl

@[simp] theorem latchPayload_none_pw (s : State) : (latchPayload none s).pw = s.pw := rfl

@[simp] theorem latchPayload_none_lasterr (s : State) : (latchPayload none s).lasterr = s.lasterr := rfl

@[simp] theorem latchPayload_none_errseen (s : State) : (latchPayload none s).errseen = s.errseen := rfl

@[simp] theorem latchPayload_none_params (s : State) : (latchPayload none s).params = s.params := rfl

@[simp] theorem latchPayload_none_commands (s : State) : (latchPayload none s).commands = s.commands := rfl

@[simp] theorem latchPayload_none_response (s : State) : (latchPayload none s).response = s.response := rfl

@[simp] theorem appendTxb_txlen (bs : List Byte) (s : State) : (appendTxb bs s).txlen = s.txlen + bs.length := by
  simp [State.txlen]

@[simp] theorem appendRxb_rxlen (b : Byte) (s : State) : (appendRxb b s).rxlen = s.rxlen + 1 := by
  simp [State.rxlen]

end Sys2Proof.Machine
end

