-- ==== Sys2Proof/Laws/Ops.lean ====
section
/-!
SUPPORT. For each shared operation one lemma that says once everything it can do.
-/

namespace Sys2Proof.Machine

/-- A good response changes nothing but the response word. -/
theorem respond_eq_next_iff (d : Data) (s t : State) :
    respond d s = .next t ↔ t = { s with response := some (responseWord .ok d) } := by
  simp [respond, eq_comm]

/-- A failing response changes LASTERR, ERRSEEN and the response word, and nothing else. -/
theorem raise_eq_next_iff (st : Status) (s t : State) :
    raise st s = .next t ↔
      t = { s with lasterr := st, errseen := true, response := some (responseWord st 0) } := by
  simp [raise, eq_comm]

/-- The gate answers NOPAYLOAD, then INDEX, and lets a readable word through. -/
theorem gate_cases (s : State) (i : Nat) :
    (s.valid = false ∧ gate s i = some .noPayload) ∨
    (s.valid = true ∧ s.pcount.val ≤ i ∧ gate s i = some .index) ∨
    (s.valid = true ∧ i < s.pcount.val ∧ gate s i = none) := by
  unfold gate
  cases hv : s.valid
  · simp
  · by_cases h : i < s.pcount.val
    · simp [h]
    · simp [Nat.le_of_not_lt h]

/-- WORD, FIELD and BAL: a refusal of the gate, or DATA from the word it lets through. -/
theorem readWordAs_cases (i : Nat) (f : Word → Data) (s : State) :
    (s.valid = false ∧ readWordAs i f s = raise .noPayload s) ∨
    (s.valid = true ∧ s.pcount.val ≤ i ∧ readWordAs i f s = raise .index s) ∨
    (s.valid = true ∧ i < s.pcount.val ∧ readWordAs i f s = respond (f (readPw s i)) s) := by
  rcases gate_cases s i with ⟨hv, hg⟩ | ⟨hv, hi, hg⟩ | ⟨hv, hi, hg⟩
  · exact .inl ⟨hv, by simp [readWordAs, hg]⟩
  · exact .inr (.inl ⟨hv, hi, by simp [readWordAs, hg]⟩)
  · exact .inr (.inr ⟨hv, hi, by simp [readWordAs, hg]⟩)

/-- The port gives its oldest word, or none. -/
theorem takeCommand_eq_some_iff (s s' : State) (cw : CommandWord) :
    takeCommand s = some (cw, s') ↔
      ∃ rest, s.commands = cw :: rest ∧ s' = { s with commands := rest } := by
  unfold takeCommand
  cases h : s.commands with
  | nil => simp
  | cons c rest => simp [eq_comm, and_comm]

/-- A word put on the port is the next one taken, and the state is as it was. -/
theorem takeCommand_putCommand (cw : CommandWord) (s : State) :
    takeCommand (putCommand cw s) = some (cw, s) := rfl

/-- The words of a frame: as many as asked for. -/
@[simp] theorem payloadWords_length (f : List Byte) (n : Nat) : (payloadWords f n).length = n := by
  simp [payloadWords]

/-- When `decode` accepts, and what it gives (42_frame.md R123). -/
theorem decodeFrame_eq_some_iff (tc : Bool) (f : List Byte) (e : Nat) (ws : List Word) :
    decodeFrame tc f e = some ws ↔
      f.length = e ∧ 7 ≤ f.length ∧ (f.length - 7) % 2 = 0 ∧ checksumOk f = true ∧ terminatorOk tc f = true ∧
        ws = payloadWords f ((f.length - 7) / 2) := by
  unfold decodeFrame
  by_cases h1 : f.length = e
  · by_cases h2 : f.length < 7
    · simp [h1, h1 ▸ h2, show ¬ 7 ≤ e from by omega]
    · have h2' : ¬ e < 7 := h1 ▸ h2
      by_cases h3 : (e - 7) % 2 = 0
      · cases h4 : checksumOk f <;> cases h5 : terminatorOk tc f <;>
          simp [h1, h2', Nat.le_of_not_lt h2', h3, eq_comm]
      · simp [h1, h2', h3]
  · simp [h1]

/-- The payload of an accepted frame has at most 124 words, so PCOUNT holds its length. -/
theorem decodeFrame_length (tc : Bool) (f : List Byte) (e : Fin 256) (ws : List Word)
    (h : decodeFrame tc f e.val = some ws) : ws.length = (e.val - 7) / 2 ∧ ws.length ≤ 124 := by
  obtain ⟨hl, -, -, -, -, rfl⟩ := (decodeFrame_eq_some_iff tc f e.val ws).1 h
  have := e.isLt
  simp [hl]
  omega

/-- RX_CHECK's latch: the new words at the front, the old ones behind them. -/
theorem latchWords_getElem (ws : List Word) (pw : Vector Word 124) (i : Nat) (h : i < 124) :
    (latchWords ws pw)[i] = ws.getD i pw[i] := by
  simp [latchWords]

/-- Reading PW below 124 reads the array. -/
theorem readPw_of_lt (s : State) (i : Nat) (h : i < 124) : readPw s i = s.pw[i] := by
  simp [readPw, h]

/-- Sign recovery stays in −32768..32768 (43_field.md R150). -/
theorem signed16_bounds (conv : SignConv) (v : Word) :
    -32768 ≤ signed16 conv v ∧ signed16 conv v ≤ 32768 := by
  have := v.isLt
  cases conv <;> simp only [signed16] <;> split <;> omega

/-- A layout has exactly NF(L) rows, so J names a row just when it is below NF(L). -/
theorem layoutRows_length (l : LayoutId) : (layoutRows l).length = l.fieldCount := by
  cases l <;> rfl

/-- Every word a layout names is below its word count (43_field.md R163). -/
theorem layoutRow_word_lt (l : LayoutId) (j : Byte) (r : LayoutRow) (h : layoutRow l j = some r) :
    r.word < l.wordCount := by
  have hm : r ∈ layoutRows l := List.mem_of_getElem? h
  have hall : ∀ l, ∀ r ∈ layoutRows l, r.word < l.wordCount := by
    intro l
    cases l <;> decide
  exact hall l r hm

end Sys2Proof.Machine
end

