-- ==== Sys2Proof/Laws/Exec.lean ====
section
/-!
SUPPORT. What a command can do, said once: `exec` answers a good response on some state, or a failing one on the state as it was.
-/

namespace Sys2Proof.Machine

/-- A good command answers from a state `s'` in which it has written what it writes; it leaves the parameters, the port and, but
for SRST, the error state; a read command writes nothing. -/
structure GoodAnswer (i : Instr) (s : State) (d : Data) (s' : State) : Prop where
  answer : exec i s = respond d s'
  params : s'.params = s.params
  commands : s'.commands = s.commands
  errorState : i ≠ .srst → s'.lasterr = s.lasterr ∧ s'.errseen = s.errseen
  srst : i = .srst → s' = resetBlock s
  reads : readsOnly i = true → s' = s

/-- Every command succeeds or fails, and a failing one changes nothing first. -/
theorem exec_cases (i : Instr) (s : State) :
    (∃ d s', GoodAnswer i s d s') ∨ (∃ st, st ≠ .ok ∧ exec i s = raise st s) := by
  have reads : ∀ (i : Instr) (d : Data), readsOnly i = true → exec i s = respond d s → GoodAnswer i s d s :=
    fun i d hr h =>
      ⟨h, rfl, rfl, fun _ => ⟨rfl, rfl⟩, fun hi => absurd (hi ▸ hr) (by decide), fun _ => rfl⟩
  have writes : ∀ (i : Instr) (d : Data) (s' : State), readsOnly i = false → i ≠ .srst → exec i s = respond d s' →
      s'.params = s.params → s'.commands = s.commands → s'.lasterr = s.lasterr → s'.errseen = s.errseen →
      GoodAnswer i s d s' :=
    fun i d s' hr hi h hp hc hl he =>
      ⟨h, hp, hc, fun _ => ⟨hl, he⟩, fun h' => absurd h' hi, fun h' => by rw [hr] at h'; cases h'⟩
  have words : ∀ (i : Instr) (n : Nat) (f : Word → Data), readsOnly i = true → exec i s = readWordAs n f s →
      (∃ d s', GoodAnswer i s d s') ∨ (∃ st, st ≠ .ok ∧ exec i s = raise st s) := by
    intro i n f hr h
    rcases readWordAs_cases n f s with ⟨-, h'⟩ | ⟨-, -, h'⟩ | ⟨-, -, h'⟩
    · exact .inr ⟨.noPayload, by decide, h.trans h'⟩
    · exact .inr ⟨.index, by decide, h.trans h'⟩
    · exact .inl ⟨_, s, reads i _ hr (h.trans h')⟩
  cases i with
  | nop => exact .inl ⟨_, s, reads _ _ rfl rfl⟩
  | crcRead => exact .inl ⟨_, s, reads _ _ rfl rfl⟩
  | txLen => exact .inl ⟨_, s, reads _ _ rfl rfl⟩
  | rxLen => exact .inl ⟨_, s, reads _ _ rfl rfl⟩
  | sign v => exact .inl ⟨_, s, reads _ _ rfl rfl⟩
  | plen => exact .inl ⟨_, s, reads _ _ rfl rfl⟩
  | status => exact .inl ⟨_, s, reads _ _ rfl rfl⟩
  | word i => exact words _ i.toNat _ rfl rfl
  | field i g k => exact words _ i.toNat _ rfl rfl
  | bal i c => exact words _ i.toNat _ rfl rfl
  | crcInit => exact .inl ⟨_, _, writes _ _ _ rfl (by decide) rfl rfl rfl rfl rfl⟩
  | crcByte b => exact .inl ⟨_, _, writes _ _ _ rfl (by simp) rfl rfl rfl rfl rfl⟩
  | txBegin a => exact .inl ⟨_, _, writes _ _ _ rfl (by simp) rfl rfl rfl rfl rfl⟩
  | rxBegin e => exact .inl ⟨_, _, writes _ _ _ rfl (by simp) rfl rfl rfl rfl rfl⟩
  | srst =>
    exact .inl ⟨0, resetBlock s, rfl, rfl, rfl, fun h => absurd rfl h, fun _ => rfl, fun h => by cases h⟩
  | rxCheck =>
    refine .inl ⟨_, _, writes _ _ _ rfl (by decide) rfl ?_ ?_ ?_ ?_⟩ <;>
      cases decodeFrame s.params.termCheck s.rxb s.explen.val <;> simp
  | txByte b =>
    by_cases ho : s.txst = .opened
    · by_cases hl : s.txlen ≥ s.params.txCap - 4
      · exact .inr ⟨.full, by decide, by simp [exec, execTxByte, ho, hl]⟩
      · exact .inl ⟨_, _, writes _ (raw8 (s.txlen + 1)) (appendTxb [b] s) rfl (by simp)
          (by simp [exec, execTxByte, ho, hl]) rfl rfl rfl rfl⟩
    · exact .inr ⟨.seq, by decide, by simp [exec, execTxByte, ho]⟩
  | rxByte b =>
    by_cases ho : s.rxst = .opened
    · by_cases hl : s.rxlen ≥ s.explen.val
      · exact .inr ⟨.full, by decide, by simp [exec, execRxByte, ho, hl]⟩
      · exact .inl ⟨_, _, writes _ (raw8 (s.rxlen + 1)) (appendRxb b s) rfl (by simp)
          (by simp [exec, execRxByte, ho, hl]) rfl rfl rfl rfl⟩
    · exact .inr ⟨.seq, by decide, by simp [exec, execRxByte, ho]⟩
  | txEnd =>
    by_cases ho : s.txst = .opened
    · exact .inl ⟨_, _, writes _ (BitVec.ofNat 8 (s.txlen + 4) ++ crc16 s.txb)
        { appendTxb (trailer (crc16 s.txb)) s with txst := .done } rfl (by decide)
        (by simp [exec, execTxEnd, ho]) rfl rfl rfl rfl⟩
    · exact .inr ⟨.seq, by decide, by simp [exec, execTxEnd, ho]⟩
  | txRead i =>
    cases h : readTxb s i.toNat with
    | none => exact .inr ⟨.index, by decide, by simp [exec, execTxRead, h]⟩
    | some b => exact .inl ⟨_, s, reads _ _ rfl (by simp [exec, execTxRead, h]; rfl)⟩
  | rxRead i =>
    cases h : readRxb s i.toNat with
    | none => exact .inr ⟨.index, by decide, by simp [exec, execRxRead, h]⟩
    | some b => exact .inl ⟨_, s, reads _ _ rfl (by simp [exec, execRxRead, h]; rfl)⟩
  | layout l j =>
    cases h : layoutRow l j with
    | none => exact .inr ⟨.illegal, by decide, by simp [exec, execLayout, h]⟩
    | some row =>
      cases hv : s.valid
      · exact .inr ⟨.noPayload, by decide, by simp [exec, execLayout, h, hv]⟩
      · by_cases hc : s.pcount.val = l.wordCount
        · exact .inl ⟨_, s, reads _ _ rfl (by simp [exec, execLayout, h, hv, hc]; rfl)⟩
        · exact .inr ⟨.layout, by decide, by simp [exec, execLayout, h, hv, hc]⟩

/-- The fields of a response word. -/
theorem getLsbD_responseWord (st : Status) (d : Data) (n : Nat) :
    (responseWord st d).getLsbD n = if n < 24 then d.getLsbD n else st.code.getLsbD (n - 24) :=
  BitVec.getLsbD_append

/-- ST of a response (30_encoding.md R63). -/
@[simp] theorem stField_responseWord (st : Status) (d : Data) : stField (responseWord st d) = st.code := by
  apply BitVec.eq_of_getLsbD_eq
  intro n hn
  rw [stField, BitVec.getLsbD_extractLsb', getLsbD_responseWord]
  simp [hn]

/-- DATA of a response (30_encoding.md R63). -/
@[simp] theorem dataField_responseWord (st : Status) (d : Data) : dataField (responseWord st d) = d := by
  apply BitVec.eq_of_getLsbD_eq
  intro n hn
  rw [dataField, BitVec.getLsbD_extractLsb', getLsbD_responseWord]
  simp [hn]

/-- Only OK has the code 0 (60_exceptions.md R200). -/
theorem code_eq_zero_iff (st : Status) : st.code = 0 ↔ st = .ok := by
  cases st <;> decide

end Sys2Proof.Machine
end

