-- ==== Sys2Proof/Tests/Slice0.lean ====
section
/-!
SUPPORT. Tests of the model's author: words of spec/ and their decoding, small steps whose expected values are those of
spec/95_test_vectors.md or of the rules' examples, and one witness for each statement that has hypotheses.
-/

open Sys2Proof Sys2Proof.Machine Sys2Proof.Claims

namespace Sys2Proof.Tests

-- One test after another: checked side by side, the evaluations ask for more threads' stacks than the memory limit allows.
set_option Elab.async false

/-! ## Well-formedness: the one check of WellFormed.lean refuses ill-formed terms -/

theorem test_ill_formed_layout_volt : (Instr.layout .volt 7).wellFormed = false := by decide
theorem test_ill_formed_layout_temp : (Instr.layout .temp 5).wellFormed = false := by decide
theorem test_ill_formed_layout_soc : (Instr.layout .soc 255).wellFormed = false := by decide
theorem test_well_formed_layout_temp : (Instr.layout .temp 4).wellFormed = true := by decide

/-! ## Decoding: words of 95_test_vectors.md and of R65's rows, every constructor -/

theorem test_decode_crc_and_system :
    decodeCW 0x00000000 = .ok .nop ∧ decodeCW 0x01000000 = .ok .crcInit ∧ decodeCW 0x02EE0000 = .ok (.crcByte 0xEE) ∧
    decodeCW 0x03000000 = .ok .crcRead ∧ decodeCW 0xF0000000 = .ok .status ∧ decodeCW 0xFF000000 = .ok .srst := by
  refine ⟨rfl, rfl, rfl, rfl, rfl, rfl⟩

theorem test_decode_transmit :
    decodeCW 0x10110000 = .ok (.txBegin 0x11) ∧ decodeCW 0x115A0000 = .ok (.txByte 0x5A) ∧
    decodeCW 0x12000000 = .ok .txEnd ∧ decodeCW 0x13070000 = .ok (.txRead 7) ∧ decodeCW 0x14000000 = .ok .txLen := by
  refine ⟨rfl, rfl, rfl, rfl, rfl⟩

theorem test_decode_receive :
    decodeCW 0x20190000 = .ok (.rxBegin 25) ∧ decodeCW 0x21D80000 = .ok (.rxByte 0xD8) ∧
    decodeCW 0x22000000 = .ok .rxCheck ∧ decodeCW 0x23180000 = .ok (.rxRead 24) ∧ decodeCW 0x24000000 = .ok .rxLen := by
  refine ⟨rfl, rfl, rfl, rfl, rfl⟩

theorem test_decode_field :
    decodeCW 0x30FF0000 = .ok (.word 255) ∧ decodeCW 0x31010012 = .ok (.field 1 true 2) ∧
    decodeCW 0x3101000F = .ok (.field 1 false 15) ∧ decodeCW 0x3200FF38 = .ok (.sign 0xFF38) ∧
    decodeCW 0x33060002 = .ok (.bal 6 2) ∧ decodeCW 0x34020005 = .ok (.layout .soc 5) ∧
    decodeCW 0x34010001 = .ok (.layout .temp 1) ∧ decodeCW 0x35000000 = .ok .plen := by
  refine ⟨rfl, rfl, rfl, rfl, rfl, rfl, rfl, rfl⟩

/-- The bounds of R66's opcode ranges, must-be-zero fields, and layouts out of range (95_test_vectors.md 2.4 to 2.6). -/
theorem test_decode_illegal :
    decodeCW 0x04000000 = .error .opcode ∧ decodeCW 0xEF000000 = .error .opcode ∧ decodeCW 0xFE000000 = .error .opcode ∧
    decodeCW 0x00000001 = .error .field ∧ decodeCW 0x02000001 = .error .field ∧ decodeCW 0x31010020 = .error .field ∧
    decodeCW 0x32010000 = .error .field ∧ decodeCW 0x33060004 = .error .field ∧ decodeCW 0x34000100 = .error .field ∧
    decodeCW 0x34000007 = .error .layout ∧ decodeCW 0x34010005 = .error .layout ∧ decodeCW 0x34030000 = .error .layout := by
  refine ⟨rfl, rfl, rfl, rfl, rfl, rfl, rfl, rfl, rfl, rfl, rfl, rfl⟩

theorem test_decode_table_word : decodeTableWord 32 0x34020005 = some (.layout .soc 5) := by decide

/-- R65's rows do not overlap: no two have the same opcode, and each row's mask covers its opcode. -/
theorem test_rows_are_disjoint :
    (opTable.map (·.code)).Pairwise (· ≠ ·) ∧ ∀ r ∈ opTable, r.mask &&& 0xFF000000 = 0xFF000000 := by decide

/-! ## Checksums and frames (95_test_vectors.md 1.1, 2.1, 2.3) -/

theorem test_crc16_wake : crc16 [0x00, 0x00, 0x01, 0x01] = 0x74C0 := by decide +kernel
theorem test_crc16_check_value :
    crc16 [0x31, 0x32, 0x33, 0x34, 0x35, 0x36, 0x37, 0x38, 0x39] = 0x4B37 := by decide +kernel
theorem test_crc16_msb_check_value :
    crc16Msb [0x31, 0x32, 0x33, 0x34, 0x35, 0x36, 0x37, 0x38, 0x39] = 0x4B37 := by decide +kernel
theorem test_wake_frame :
    encodeFrame 0x00 [0x00, 0x01, 0x01] = [0x00, 0x00, 0x01, 0x01, 0xC0, 0x74, 0x0D, 0x0A] := by decide +kernel

/-- The empty-payload frame of 95_test_vectors.md 2.3. -/
def emptyFrame : List Byte := [0x05, 0x03, 0x00, 0x61, 0x31, 0x0D, 0x0A]

/-- One payload word, 0x0ED8, with address 0x01 and header 03 12: built by R137's rule. -/
def oneWordFrame : List Byte := responseFrame 0x01 0x03 0x12 [0x0ED8]

theorem test_decode_frame_lengths :
    decodeFrame false emptyFrame 7 = some [] ∧ decodeFrame false (emptyFrame ++ [0x00]) 8 = none ∧
    decodeFrame false emptyFrame 9 = none ∧ decodeFrame false [0x05, 0x00, 0x02, 0xE0, 0x0D, 0x0A] 6 = none := by
  decide +kernel
theorem test_decode_frame_word : decodeFrame true oneWordFrame 9 = some [0x0ED8] := by decide +kernel

theorem test_expected_lengths :
    layoutFrameLength .volt = 25 ∧ layoutFrameLength .temp = 21 ∧ layoutFrameLength .soc = 31 := by decide
theorem test_fx_value : fxValue 0x300ED8 = 3800 / 1000 ∧ fxValue 0x2FFF38 = -2 := by decide +kernel

/-! ## One step each -/

/-- The response word of an outcome. -/
def answer : Result → Option ResponseWord
  | .next t => t.response
  | .fault _ => none
  | .refused _ => none

/-- The state of an outcome, the reset state where there is none. -/
def after : Result → State
  | .next t => t
  | .fault _ => State.reset
  | .refused _ => State.reset

/-- A state with an open frame of these bytes, and this capacity. -/
def sending (cap : Nat) (bs : List Byte) : State :=
  { State.resetWith { Params.default with txCap := cap } with txb := bs, txst := .opened }

/-- A state that expects e bytes and holds these. -/
def receiving (e : Fin 256) (bs : List Byte) : State := { State.reset with rxb := bs, explen := e, rxst := .opened }

/-- A state with a valid payload of these words. -/
def holding (ws : List Word) : State :=
  { State.reset with valid := true, pcount := Fin.ofNat 125 ws.length, pw := latchWords ws (Vector.replicate 124 0) }

/-- The temp payload of program P2. -/
def tempWords : List Word := [0x09C4, 0xFF38, 0x0906, 0x08F2, 0x092E, 0x0000, 0x0000]

/-- The Current/SOC payload of program P3. -/
def socWords : List Word := [0x0057, 0, 0, 0, 0, 0, 0x3BDC, 0xFB2E, 0, 0x3A20, 0, 0]

/-- The reset state of a block with SIGN_CONV = TWOS. -/
def twosReset : State := State.resetWith { Params.default with signConv := .twos }

theorem test_crcInit : (after (exec .crcInit { State.reset with crc := 0x1234 })).crc = 0xFFFF := by decide
theorem test_crcByte : answer (exec (.crcByte 0x03) State.reset) = some 0x000041FF := by decide +kernel
theorem test_crcRead : answer (exec .crcRead { State.reset with crc := 0xF5C1 }) = some 0x0000F5C1 := by decide
theorem test_txBegin : (after (exec (.txBegin 0x09) (sending 7 [1, 2, 3]))).txb = [0x09] := by decide
theorem test_txByte_last_fit : answer (exec (.txByte 0x02) (sending 7 [0x09, 0x01])) = some 0x00000003 := by decide
theorem test_txByte_full : answer (exec (.txByte 0x03) (sending 7 [0x09, 0x01, 0x02])) = some 0x03000000 := by decide
theorem test_txEnd : (after (exec .txEnd (sending 7 [0x09, 0x01, 0x02]))).txb = [0x09, 0x01, 0x02, 0x21, 0x93, 0x0D, 0x0A] := by
  decide +kernel
theorem test_txEnd_answer : answer (exec .txEnd (sending 255 [0x00, 0x00, 0x01, 0x01])) = some 0x000874C0 := by decide +kernel
theorem test_txRead : answer (exec (.txRead 1) (sending 7 [0x09, 0x74])) = some 0x00000074 := by decide
theorem test_txRead_index : answer (exec (.txRead 2) (sending 7 [0x09, 0x74])) = some 0x05000000 := by decide
theorem test_txLen : answer (exec .txLen (sending 7 [0x09, 0x74])) = some 0x00000002 := by decide
theorem test_rxBegin : answer (exec (.rxBegin 25) State.reset) = some 0x00000019 := by decide
theorem test_rxBegin_discards : (after (exec (.rxBegin 25) (holding tempWords))).valid = false := by decide
theorem test_rxByte_seq : answer (exec (.rxByte 0x01) State.reset) = some 0x02000000 := by decide
theorem test_rxByte_full : answer (exec (.rxByte 0x55) (receiving 2 [1, 2])) = some 0x03000000 := by decide
theorem test_rxCheck_empty_payload : answer (exec .rxCheck (receiving 7 emptyFrame)) = some 0x00800000 := by decide +kernel
theorem test_rxCheck_short : answer (exec .rxCheck (receiving 9 emptyFrame)) = some 0x00000000 := by decide +kernel
theorem test_rxRead : answer (exec (.rxRead 4) (receiving 7 emptyFrame)) = some 0x00000031 := by decide
theorem test_rxLen : answer (exec .rxLen (receiving 25 [1, 3, 18])) = some 0x00001903 := by decide
theorem test_word : answer (exec (.word 1) (holding tempWords)) = some 0x0000FF38 := by decide +kernel
theorem test_word_index : answer (exec (.word 7) (holding tempWords)) = some 0x05000000 := by decide +kernel
theorem test_field_signed : answer (exec (.field 1 true 2) (holding tempWords)) = some 0x002FFF38 := by decide +kernel
theorem test_field_unsigned : answer (exec (.field 1 false 2) (holding tempWords)) = some 0x0020FF38 := by decide +kernel
theorem test_sign_literal_boundary : answer (exec (.sign 0x8000) State.reset) = some 0x00008000 := by decide
theorem test_sign_twos_boundary : answer (exec (.sign 0x8000) twosReset) = some 0x000F8000 := by decide
theorem test_bal_balancing : answer (exec (.bal 6 2) (holding socWords)) = some 0x00000001 := by decide +kernel
theorem test_bal_before_index : answer (exec (.bal 200 0) State.reset) = some 0x04000000 := by decide
theorem test_layout_soc_current : answer (exec (.layout .soc 1) (holding socWords)) = some 0x002FFB2E := by decide +kernel
theorem test_layout_wrong_count : answer (exec (.layout .volt 0) (holding tempWords)) = some 0x06000000 := by decide +kernel
theorem test_plen : answer (exec .plen (holding tempWords)) = some 0x00800007 := by decide +kernel
theorem test_nop : answer (exec .nop State.reset) = some 0x00000000 := by decide
theorem test_status_example :
    answer (exec .status (after (exec (.txByte 0x02) (sending 5 [0x01])))) = some 0x00000132 := by decide
theorem test_status_twos : answer (exec .status twosReset) = some 0x00000200 := by decide
theorem test_srst : (after (exec .srst (after (exec (.txByte 0x02) (sending 5 [0x01]))))).errseen = false := by decide

/-- A word on the port is taken, performed and answered. -/
theorem test_step_from_reset : answer (step (State.reset.withFetchWord 32 0x20190000)) = some 0x00000019 := by decide
theorem test_step_illegal : answer (step (State.reset.withFetchWord 32 0x00000001)) = some 0x01000000 := by decide

/-! ## Assembly text (30_encoding.md R68, R69) -/

theorem test_assemble_field : assembleLine "FIELD 1, S, 2".toList = some [.field 1 true 2] := by decide +kernel
theorem test_assemble_pseudo :
    assembleLine "TX_FRAME 0x03, 0x5A ; a request".toList = some [.txBegin 0x03, .txByte 0x5A, .txEnd] := by decide +kernel
theorem test_assemble_layout_name : assembleLine " LAYOUT SOC, 6".toList = some [.layout .soc 6] := by decide +kernel
theorem test_assemble_refuses_bad_layout : assembleLine "LAYOUT VOLT, 7".toList = none := by decide +kernel
theorem test_text_reads_back : assembleLine (Instr.sign 65336).text = some [.sign 65336] := by decide +kernel

/-! ## Witnesses: for each statement with hypotheses, values that meet them -/

/-- A state with this word on its port. -/
def facing (cw : CommandWord) : State := { State.reset with commands := [cw] }

/-- A received and checked frame of one word. -/
def checked : State := after (exec .rxCheck (receiving 9 oneWordFrame))

theorem test_witness_DecodeOfEncodeIsTheCommand : (Instr.layout .soc 6).WellFormed := by decide
theorem test_witness_EncodeOfDecodeIsTheWord : decodeCW 0x34020006 = .ok (.layout .soc 6) := by rfl
theorem test_witness_ExactlyTheListedWordsAreIllegal :
    (IllegalWord 0x36000000 ∧ IllegalWord 0xFE000000 ∧ IllegalWord 0x31000020 ∧ IllegalWord 0x34010005) ∧
    ¬ IllegalWord 0x34010004 ∧ (facing 0x36000000).commands = 0x36000000 :: [] := by
  refine ⟨⟨?_, ?_, ?_, ?_⟩, ?_, rfl⟩ <;> dsimp only [IllegalWord, UnlistedOpcode, NonzeroReservedField, LayoutOutOfRange] <;>
    decide
theorem test_witness_StepRunsTheDecodedCommand :
    (facing 0x20190000).commands = 0x20190000 :: [] ∧ decodeCW 0x20190000 = .ok (.rxBegin 25) := ⟨rfl, rfl⟩
theorem test_witness_FetchedWordOfACommandRunsIt : (Instr.layout .temp 4).WellFormed := by decide
theorem test_witness_EveryStepCompletes :
    (facing 0x36000000).commands = 0x36000000 :: [] ∧ State.reset.commands = [] := ⟨rfl, rfl⟩
theorem test_witness_NoStepChangesTheParameters : ∃ t, step (facing 0xFF000000) = .next t := ⟨_, rfl⟩
theorem test_witness_ResetPutsTheListedValues : State.reset = State.resetWith Params.default := rfl
theorem test_witness_ResetMeetsTheInvariants :
    Params.default.wf ∧ ({ Params.default with txCap := 5 } : Params).wf := by decide
theorem test_witness_EveryStepKeepsTheInvariants :
    (putCommand 0x115A0000 (sending 7 [0x09, 0x01])).Inv ∧
    ∃ t, step (putCommand 0x115A0000 (sending 7 [0x09, 0x01])) = .next t ∧ t.txlen = 3 :=
  ⟨by decide +kernel, _, rfl, by decide⟩
theorem test_witness_CommandsRightAfterReset : (Instr.layout .volt 6).WellFormed := by decide
theorem test_witness_SingleBitErrorsAreDetected :
    (4 ≤ emptyFrame.length ∧ 39 < 8 * (emptyFrame.length - 2) ∧ checksumOk emptyFrame = true) ∧
    ∃ t u, exec .rxCheck (receiving 7 emptyFrame) = .next t ∧ t.valid = true ∧
      exec .rxCheck { receiving 7 emptyFrame with rxb := flipBit emptyFrame 39 } = .next u :=
  ⟨by decide +kernel, _, _, rfl, by decide +kernel, rfl⟩
theorem test_witness_CrcAndFrameCommandsDoNotInterfere :
    isCrcCommand (.crcByte 1) = true ∧ isFrameCommand .rxCheck = true := by decide
theorem test_witness_TxByteAppendsABodyByte :
    ((sending 7 [9, 1]).txst = .opened ∧ (sending 7 [9, 1]).txb.length + 4 < (sending 7 [9, 1]).params.txCap) ∧
    State.reset.txst ≠ .opened ∧
    ((sending 7 [9, 1, 2]).txst = .opened ∧ (sending 7 [9, 1, 2]).params.txCap ≤ (sending 7 [9, 1, 2]).txb.length + 4) := by
  decide
theorem test_witness_TxEndAppendsTheTrailer : (sending 5 [9]).txst = .opened ∧ State.reset.txst ≠ .opened := by decide
theorem test_witness_TxReadAnswersOneByte :
    (sending 7 [9, 1]).txb[(1#8).toNat]? = some 1 ∧ (sending 7 [9, 1]).txb.length ≤ (2#8).toNat := by decide
theorem test_witness_RxByteAppendsAReceivedByte :
    ((receiving 2 [1]).rxst = .opened ∧ (receiving 2 [1]).rxb.length < (receiving 2 [1]).explen.val) ∧
    State.reset.rxst ≠ .opened ∧
    ((receiving 0 []).rxst = .opened ∧ (receiving 0 []).explen.val ≤ (receiving 0 []).rxb.length) := by decide
theorem test_witness_RxCheckLatchesAcceptedFrames :
    AcceptableFrame (receiving 9 oneWordFrame) ∧ AcceptableFrame (receiving 7 emptyFrame) ∧
    ¬ AcceptableFrame (receiving 8 emptyFrame) := by
  refine ⟨?_, ?_, ?_⟩ <;> unfold AcceptableFrame <;> decide +kernel
theorem test_witness_RxReadAnswersOneByte :
    (receiving 9 [1, 2]).rxb[(1#8).toNat]? = some 2 ∧ (receiving 9 [1, 2]).rxb.length ≤ (2#8).toNat := by decide
theorem test_witness_TransmitCommandsPerformEncode :
    ([7, 8] : List Byte).length + 5 ≤ (sending 7 []).params.txCap := by decide
theorem test_witness_ReceiveCommandsPerformDecode :
    decodeFrame State.reset.params.termCheck (oneWordFrame.take (9#8).toNat) (9#8).toNat = some [0x0ED8] ∧
    decodeFrame State.reset.params.termCheck (oneWordFrame.take (8#8).toNat) (8#8).toNat = none := by decide +kernel
theorem test_witness_AcceptedFrameCannotBeAltered :
    checked.Inv ∧ checked.valid = true ∧ ∃ t, exec (.rxByte 0x55) checked = .next t := by
  refine ⟨by decide +kernel, by decide +kernel, ?_⟩
  rcases exec_cases (.rxByte 0x55) checked with ⟨_, _, h⟩ | ⟨_, _, h⟩
  · exact ⟨_, h.answer⟩
  · exact ⟨_, h⟩
theorem test_witness_SignRecoveryConventions : (32769 : Word) ≠ 32768 := by decide
theorem test_witness_FxPackingIsExact : (-524288 : Int) ≤ -32768 ∧ (-32768 : Int) ≤ 524287 := by decide
theorem test_witness_WordAnswersARawWord :
    ((holding tempWords).valid = true ∧ (6#8).toNat < (holding tempWords).pcount.val) ∧ State.reset.valid = false ∧
    (holding tempWords).pcount.val ≤ (7#8).toNat := by decide
theorem test_witness_FieldAnswersAScaledWord :
    ((holding tempWords).valid = true ∧ (0#8).toNat < (holding tempWords).pcount.val) ∧ State.reset.valid = false ∧
    (holding tempWords).pcount.val ≤ (255#8).toNat ∧ (0x0020#16).extractLsb' 5 11 ≠ 0 := by decide
theorem test_witness_SignAnswersTheRecoveredValue :
    State.reset.params.signConv = .literal ∧ twosReset.params.signConv = .twos ∧ (1#8 : Byte) ≠ 0 := by decide
theorem test_witness_BalAnswersTheBalancingFlag :
    ((holding socWords).valid = true ∧ (11#8).toNat < (holding socWords).pcount.val) ∧ State.reset.valid = false ∧
    (holding socWords).pcount.val ≤ (12#8).toNat ∧ (0x0004#16).extractLsb' 2 14 ≠ 0 := by decide
theorem test_witness_LayoutAnswersItsFields :
    ((.temp, 7, 1, 1, true, 2) ∈ fxRows ∧ (holding tempWords).valid = true ∧ (holding tempWords).pcount.val = 7) ∧
    (3 < 4 ∧ (holding socWords).valid = true ∧ (holding socWords).pcount.val = 12) ∧
    ((Instr.layout .volt 6).WellFormed ∧ State.reset.valid = false ∧ (holding tempWords).pcount.val ≠ 9) ∧
    LayoutOutOfRange 0x34 (1#8).toNat (5#16).toNat ∧ 256 ≤ (0x0100#16).toNat := by
  dsimp only [LayoutOutOfRange]
  decide
theorem test_witness_LayoutRowsEqualGenericCommands :
    ((.soc, 12, 1, 7, true, 2) ∈ fxRows ∧ (holding socWords).valid = true ∧ (holding socWords).pcount.val = 12) := by decide
theorem test_witness_PlenAnswersThePayloadImage :
    (∃ t, exec .rxCheck (receiving 9 oneWordFrame) = .next t) ∧ ∃ t, exec (.rxBegin 9) State.reset = .next t :=
  ⟨⟨_, rfl⟩, _, rfl⟩
theorem test_witness_FailuresChangeOnlyTheErrorState :
    (facing 0x12000000).commands = 0x12000000 :: [] ∧
    ∃ t, step (facing 0x12000000) = .next t ∧ t.response = some 0x02000000 ∧
      (0x02000000#32).extractLsb' 24 8 ≠ 0 := ⟨rfl, _, rfl, by decide, by decide⟩
theorem test_witness_SuccessesKeepTheErrorState :
    (facing 0x10010000).commands = 0x10010000 :: [] ∧ (facing 0xFF000000).commands = 0xFF000000 :: [] ∧
    ∃ t u, step (facing 0x10010000) = .next t ∧ t.response = some 0x00000001 ∧ (0x00000001#32).extractLsb' 24 8 = 0 ∧
      step (facing 0xFF000000) = .next u ∧ u.response = some 0 := ⟨rfl, rfl, _, _, rfl, by decide, by decide, rfl, by decide⟩
theorem test_witness_EveryStatusIsTheFirstCause :
    (facing 0x30C80000).commands = 0x30C80000 :: [] ∧ IllegalWord 0x30C80001 ∧ ¬ IllegalWord 0x30C80000 := by
  refine ⟨rfl, ?_, ?_⟩ <;> dsimp only [IllegalWord, UnlistedOpcode, NonzeroReservedField, LayoutOutOfRange] <;> decide
theorem test_witness_OnlyTheNamedCommandsWrite :
    ∃ t, exec (.txByte 5) (sending 7 [9]) = .next t ∧ t.txb ≠ (sending 7 [9]).txb := ⟨_, rfl, by decide⟩
theorem test_witness_ReadCommandsChangeNothing :
    (readsOnly (.layout .soc 6) = true ∧ (Instr.layout .soc 6).WellFormed) ∧
    (∃ t, exec .rxCheck (receiving 9 oneWordFrame) = .next t) ∧
    ∀ t : State, ∃ u, exec (.crcByte 7) t = .next u ∧ u.rxb = t.rxb ∧ u.explen = t.explen ∧ u.params = t.params :=
  ⟨by decide, ⟨_, rfl⟩, fun _ => ⟨_, rfl, rfl, rfl, rfl⟩⟩
theorem test_witness_UnreadableWordsAreUnobservable :
    State.SameObservable (putCommand 0x30000000 State.reset)
      { putCommand 0x30000000 State.reset with pw := Vector.replicate 124 0xABCD } ∧
    ∃ s', step (putCommand 0x30000000 State.reset) = .next s' :=
  ⟨⟨rfl, fun h => by cases h⟩, _, rfl⟩

/-- The words that the clauses NoOperands and OnlyOperandA of the per-command statements speak of exist and can stand on the
port: one per opcode, with the least operand that is not allowed. -/
theorem test_witness_NoOperands_and_OnlyOperandA :
    ∀ op ∈ ([0x00, 0x01, 0x02, 0x03, 0x10, 0x11, 0x12, 0x13, 0x14, 0x20, 0x21, 0x22, 0x23, 0x24, 0x30, 0x35, 0xF0, 0xFF] : List Byte),
      (1#16 : BitVec 16) ≠ 0 ∧ (facing (op ++ 0#8 ++ 1#16)).commands = (op ++ 0#8 ++ 1#16 : CommandWord) :: [] := by
  decide

end Sys2Proof.Tests
end

