-- ==== Sys2Proof/Proofs/Step.lean ====
section
/-!
SUPPORT. One equation per branch of `step`, and what each layer of a step keeps of the parameters.
-/

namespace Sys2Proof.Machine

/-- With nothing on the port the block waits (log entry 3). -/
theorem step_of_commands_nil {s : State} (hport : s.commands = []) : step s = .next s := by
  simp [step, takeCommand, hport, idle]

/-- An ILLEGAL word is taken from the port and refused (30_encoding.md R66). -/
theorem step_of_decode_error {s : State} {cw : CommandWord} {rest : List CommandWord} {why : Illegal}
    (hport : s.commands = cw :: rest) (hdecode : decodeCW cw = .error why) :
    step s = raise .illegal { s with commands := rest } := by
  simp [step, takeCommand, hport, hdecode, execIllegal]

/-- Any other word is taken from the port and its command performed (60_exceptions.md R210). -/
theorem step_of_decode_ok {s : State} {cw : CommandWord} {rest : List CommandWord} {i : Instr}
    (hport : s.commands = cw :: rest) (hdecode : decodeCW cw = .ok i) :
    step s = exec i { s with commands := rest } := by
  simp [step, takeCommand, hport, hdecode]

theorem respond_keeps_params {d : Data} {s t : State} (h : respond d s = .next t) : t.params = s.params := by
  rw [(respond_eq_next_iff d s t).1 h]

theorem raise_keeps_params {st : Status} {s t : State} (h : raise st s = .next t) : t.params = s.params := by
  rw [(raise_eq_next_iff st s t).1 h]

/-- A good answer keeps the parameters by `GoodAnswer.params`, a failing one starts from the state as it was. -/
theorem exec_keeps_params {i : Instr} {s t : State} (h : exec i s = .next t) : t.params = s.params := by
  obtain ⟨d, s', good⟩ | ⟨st, -, hraise⟩ := exec_cases i s
  · have ht : t.params = s'.params := respond_keeps_params (good.answer.symm.trans h)
    exact ht.trans good.params
  · exact raise_keeps_params (hraise.symm.trans h)

/-- Settles O8: neither waiting, refusing an ILLEGAL word nor performing a command writes the parameters. -/
theorem noStepChangesTheParameters : Obligations.NoStepChangesTheParameters := by
  intro s t h
  cases hport : s.commands with
  | nil =>
    rw [step_of_commands_nil hport] at h
    cases h
    rfl
  | cons cw rest =>
    cases hdecode : decodeCW cw with
    | error why =>
      rw [step_of_decode_error hport hdecode] at h
      have hkept := raise_keeps_params h
      exact hkept
    | ok i =>
      rw [step_of_decode_ok hport hdecode] at h
      have hkept := exec_keeps_params h
      exact hkept

end Sys2Proof.Machine
end

section
/-!
SUPPORT. What one step does, and a word of the payload latched by RX_CHECK.
-/

namespace Sys2Proof.Machine

/-- One step waits, refuses an ILLEGAL word, or performs a command on the state with its word taken (60_exceptions.md R210). -/
theorem step_cases {s t : State} (h : step s = .next t) :
    t = s ∨ ∃ rest : List CommandWord,
      raise .illegal { s with commands := rest } = .next t ∨ ∃ i : Instr, exec i { s with commands := rest } = .next t := by
  cases hport : s.commands with
  | nil =>
    rw [step_of_commands_nil hport] at h
    cases h
    exact .inl rfl
  | cons cw rest =>
    refine .inr ⟨rest, ?_⟩
    cases hdecode : decodeCW cw with
    | error why => exact .inl ((step_of_decode_error hport hdecode).symm.trans h)
    | ok i => exact .inr ⟨i, (step_of_decode_ok hport hdecode).symm.trans h⟩

/-- The words RX_CHECK latches are the words read afterwards, whatever PW held (42_frame.md R132). -/
theorem readPw_latchPayload_some {ws : List Word} {s : State} {i : Nat} (hi : i < 124) (hws : i < ws.length) :
    readPw (latchPayload (some ws) s) i = ws[i] := by
  simp [readPw_of_lt _ i hi, latchWords_getElem, hws]

theorem pcount_latchPayload_some_le (ws : List Word) (s : State) :
    (latchPayload (some ws) s).pcount.val ≤ ws.length := Nat.mod_le _ _

/-- Word `i` of a frame's payload, high byte first (20_memory.md R43). -/
theorem payloadWords_getElem (f : List Byte) (n i : Nat) (h : i < (payloadWords f n).length) :
    (payloadWords f n)[i] = byteAt f (3 + 2 * i) ++ byteAt f (4 + 2 * i) := by
  simp [payloadWords, bigEndianAt, show 3 + 2 * i + 1 = 4 + 2 * i by omega]

end Sys2Proof.Machine
end

section
/-!
SUPPORT. What a performed command has written, said once as a relation between the state before it and the state its answer is
put in. The invariants of 10_state.md R34 and the writer column of R20 are read off it.
-/

namespace Sys2Proof.Machine

/-- The writes of a command that succeeds: from the first state, under the command's own guard, to the second (41_crc.md,
42_frame.md, 44_system.md). -/
inductive Writes : Instr → State → State → Prop where
  | nothing {i : Instr} {s : State} (reads : readsOnly i = true) : Writes i s s
  | crcInit {s : State} : Writes .crcInit s { s with crc := 0xFFFF }
  | crcByte {s : State} (b : Byte) : Writes (.crcByte b) s { s with crc := crcUpdate s.crc b }
  | txBegin {s : State} (a : Byte) : Writes (.txBegin a) s { s with txb := [a], txst := .opened }
  | txByte {s : State} (b : Byte) (opened : s.txst = .opened) (room : s.txlen < s.params.txCap - 4) :
      Writes (.txByte b) s (appendTxb [b] s)
  | txEnd {s : State} (opened : s.txst = .opened) :
      Writes .txEnd s { appendTxb (trailer (crc16 s.txb)) s with txst := .done }
  | rxBegin {s : State} (e : Byte) : Writes (.rxBegin e) s
      { s with rxb := [], explen := ⟨e.toNat, e.isLt⟩, rxst := .opened, valid := false, pcount := 0 }
  | rxByte {s : State} (b : Byte) (opened : s.rxst = .opened) (room : s.rxlen < s.explen.val) :
      Writes (.rxByte b) s (appendRxb b s)
  | rxAccept {s : State} {ws : List Word} (accepts : decodeFrame s.params.termCheck s.rxb s.explen.val = some ws) :
      Writes .rxCheck s (latchPayload (some ws) s)
  | rxReject {s : State} (rejects : decodeFrame s.params.termCheck s.rxb s.explen.val = none) :
      Writes .rxCheck s (latchPayload none s)
  | srst {s : State} : Writes .srst s (resetBlock s)

/-- The states a command can leave: its writes and a good response, or R201's effect of a failure. -/
inductive Leaves (i : Instr) (s : State) : State → Prop where
  | good {u : State} (writes : Writes i s u) (d : Data) : Leaves i s { u with response := some (responseWord .ok d) }
  | failed {st : Status} (notOk : st ≠ .ok) :
      Leaves i s { s with lasterr := st, errseen := true, response := some (responseWord st 0) }

theorem leaves_of_respond {i : Instr} {s u t : State} {d : Data} (writes : Writes i s u) (h : respond d u = .next t) :
    Leaves i s t := by
  obtain rfl := (respond_eq_next_iff d u t).1 h
  exact .good writes d

theorem leaves_of_raise {i : Instr} {s t : State} {st : Status} (notOk : st ≠ .ok) (h : raise st s = .next t) :
    Leaves i s t := by
  obtain rfl := (raise_eq_next_iff st s t).1 h
  exact .failed notOk

/-- A read command writes nothing, so `exec_cases` already says what it leaves. -/
theorem leaves_of_readsOnly {i : Instr} {s t : State} (reads : readsOnly i = true) (h : exec i s = .next t) :
    Leaves i s t := by
  obtain ⟨d, s', good⟩ | ⟨st, notOk, hraise⟩ := exec_cases i s
  · obtain rfl := good.reads reads
    exact leaves_of_respond (.nothing reads) (good.answer.symm.trans h)
  · exact leaves_of_raise notOk (hraise.symm.trans h)

theorem leaves_of_txByte {b : Byte} {s t : State} (h : execTxByte b s = .next t) : Leaves (.txByte b) s t := by
  unfold execTxByte at h
  split at h
  · exact leaves_of_raise (by decide) h
  next hopen =>
    split at h
    · exact leaves_of_raise (by decide) h
    next hroom => exact leaves_of_respond (.txByte b (not_not.1 hopen) (not_le.1 hroom)) h

theorem leaves_of_txEnd {s t : State} (h : execTxEnd s = .next t) : Leaves .txEnd s t := by
  unfold execTxEnd at h
  split at h
  · exact leaves_of_raise (by decide) h
  next hopen => exact leaves_of_respond (.txEnd (not_not.1 hopen)) h

theorem leaves_of_rxByte {b : Byte} {s t : State} (h : execRxByte b s = .next t) : Leaves (.rxByte b) s t := by
  unfold execRxByte at h
  split at h
  · exact leaves_of_raise (by decide) h
  next hopen =>
    split at h
    · exact leaves_of_raise (by decide) h
    next hroom => exact leaves_of_respond (.rxByte b (not_not.1 hopen) (not_le.1 hroom)) h

theorem leaves_of_rxCheck {s t : State} (h : execRxCheck s = .next t) : Leaves .rxCheck s t := by
  unfold execRxCheck at h
  cases hdec : decodeFrame s.params.termCheck s.rxb s.explen.val with
  | none => exact leaves_of_respond (.rxReject hdec) (hdec ▸ h)
  | some ws => exact leaves_of_respond (.rxAccept hdec) (hdec ▸ h)

/-- Everything a command can do. -/
theorem exec_leaves {i : Instr} {s t : State} (h : exec i s = .next t) : Leaves i s t := by
  cases i with
  | nop | crcRead | txRead | txLen | rxRead | rxLen | word | field | sign | bal | layout | plen | status =>
    exact leaves_of_readsOnly rfl h
  | crcInit => exact leaves_of_respond .crcInit h
  | crcByte b => exact leaves_of_respond (.crcByte b) h
  | txBegin a => exact leaves_of_respond (.txBegin a) h
  | txByte b => exact leaves_of_txByte h
  | txEnd => exact leaves_of_txEnd h
  | rxBegin e => exact leaves_of_respond (.rxBegin e) h
  | rxByte b => exact leaves_of_rxByte h
  | rxCheck => exact leaves_of_rxCheck h
  | srst => exact leaves_of_respond .srst h

/-- A failure's status shows in the response. -/
theorem responseWord_st_ne_zero {st : Status} (notOk : st ≠ .ok) (d : Data) :
    (responseWord st d).extractLsb' 24 8 ≠ 0 := by
  have hst : (responseWord st d).extractLsb' 24 8 = st.code := stField_responseWord st d
  rw [hst]
  exact mt (code_eq_zero_iff st).1 notOk

/-- Settles O52: each way of writing touches only components that list its opcode, and a failure touches the error state alone
and says so in its response. -/
theorem onlyTheNamedCommandsWrite : Obligations.OnlyTheNamedCommandsWrite := by
  intro i s t h
  cases exec_leaves h with
  | good writes d => cases writes <;> simp [Instr.opcode]
  | failed notOk => simpa using fun _ => Or.inr (responseWord_st_ne_zero notOk 0)

end Sys2Proof.Machine
end

section
/-!
SUPPORT. The invariants of 10_state.md R34 hold at reset and every step keeps them. They fall into a transmit part, a receive
part and the error state, and each command can only break the part it writes.
-/

namespace Sys2Proof.Machine

/-- The invariants of R34 about TXB and TXST, with R7's range of TX_CAP. -/
abbrev State.TransmitInv (s : State) : Prop :=
  s.params.wf ∧ s.txlen ≤ s.params.txCap ∧ s.TxLengthFitsState ∧ s.DoneFrameHasTrailer

/-- The invariants of R34 about RXB, EXPLEN, RXST and the payload. -/
abbrev State.ReceiveInv (s : State) : Prop :=
  s.rxlen ≤ s.explen.val ∧ s.IdleReceiverIsEmpty ∧ s.PayloadMirrorsFrame ∧ s.NoPayloadNoCount

theorem inv_iff_parts (s : State) : s.Inv ↔ s.TransmitInv ∧ s.ReceiveInv ∧ s.ErrorStateAgrees := by
  constructor
  · rintro ⟨hp, ⟨htx, hrx⟩, hfits, hdone, hidle, hpayload, hcount, herr⟩
    exact ⟨⟨hp, htx, hfits, hdone⟩, ⟨hrx, hidle, hpayload, hcount⟩, herr⟩
  · rintro ⟨⟨hp, htx, hfits, hdone⟩, ⟨hrx, hidle, hpayload, hcount⟩, herr⟩
    exact ⟨hp, ⟨htx, hrx⟩, hfits, hdone, hidle, hpayload, hcount, herr⟩

/-- Settles O10: at power-on by R35's table, and SRST leaves the power-on values whatever the state was. -/
theorem resetPutsTheListedValues : Obligations.ResetPutsTheListedValues := by
  constructor
  · rintro p _ rfl
    simp [State.txlen, State.rxlen, Status.code]
  · intro s
    refine ⟨_, (respond_eq_next_iff 0 (resetBlock s) _).2 rfl, ?_⟩
    simp [State.txlen, State.rxlen, Status.code]

/-- Settles O11: every buffer is empty, both sequencing states are IDLE, and no error is recorded. -/
theorem resetMeetsTheInvariants : Obligations.ResetMeetsTheInvariants := by
  intro p hp
  have htx : (State.resetWith p).TransmitInv := ⟨hp, Nat.zero_le _, ⟨fun _ => rfl, nofun, nofun⟩, nofun⟩
  have hrx : (State.resetWith p).ReceiveInv := ⟨Nat.le_refl 0, fun _ => ⟨rfl, rfl, rfl⟩, nofun, fun _ => rfl⟩
  exact (inv_iff_parts _).2 ⟨htx, hrx, fun _ => rfl, fun h => absurd rfl h⟩

/-! ### Transmit part -/

theorem transmitInv_txBegin {s : State} (a : Byte) (h : s.TransmitInv) :
    State.TransmitInv { s with txb := [a], txst := .opened } := by
  obtain ⟨hp, -, -, -⟩ := h
  have hcap := hp.1
  refine ⟨hp, ?_, ⟨by simp, fun _ => ?_, by simp⟩, by simp⟩ <;> simp only [State.txlen, List.length_singleton] <;> omega

/-- R126's guard is the bound of an unfinished frame. -/
theorem transmitInv_txByte {s : State} {b : Byte} (opened : s.txst = .opened) (room : s.txlen < s.params.txCap - 4)
    (h : s.TransmitInv) : (appendTxb [b] s).TransmitInv := by
  obtain ⟨hp, -, -, -⟩ := h
  refine ⟨hp, ?_, ⟨by simp [opened], fun _ => ?_, by simp [opened]⟩, by simp [opened]⟩ <;>
    simp only [appendTxb_txlen, appendTxb_params, List.length_singleton] <;> omega

/-- The four bytes TX_END appends are the ones R34 asks of a finished frame, whatever stands before them. -/
theorem doneFrameHasTrailer_txEnd (s : State) :
    State.DoneFrameHasTrailer { appendTxb (trailer (crc16 s.txb)) s with txst := .done } := by
  intro _
  simp [State.txlen, byteAt, trailer]

theorem transmitInv_txEnd {s : State} (opened : s.txst = .opened) (h : s.TransmitInv) :
    State.TransmitInv { appendTxb (trailer (crc16 s.txb)) s with txst := .done } := by
  obtain ⟨hp, -, ⟨-, hopen, -⟩, -⟩ := h
  have hcap := hp.1
  obtain ⟨hpos, hroom⟩ := hopen opened
  have hlen : (appendTxb (trailer (crc16 s.txb)) s).txlen = s.txlen + 4 := appendTxb_txlen _ s
  have hmax : (appendTxb (trailer (crc16 s.txb)) s).txlen ≤ s.params.txCap := by omega
  have hmin : 5 ≤ (appendTxb (trailer (crc16 s.txb)) s).txlen := by omega
  exact ⟨hp, hmax, ⟨by simp, by simp, fun _ => ⟨hmin, hmax⟩⟩, doneFrameHasTrailer_txEnd s⟩

/-! ### Receive part -/

theorem receiveInv_rxBegin (s : State) (e : Byte) : State.ReceiveInv
    { s with rxb := [], explen := ⟨e.toNat, e.isLt⟩, rxst := .opened, valid := false, pcount := 0 } :=
  ⟨by simp [State.rxlen], by simp, by simp, by simp⟩

/-- With a valid payload RXB holds EXPLEN bytes, so a byte that R131 still accepts meets no payload. -/
theorem receiveInv_rxByte {s : State} {b : Byte} (opened : s.rxst = .opened) (room : s.rxlen < s.explen.val)
    (h : s.ReceiveInv) : (appendRxb b s).ReceiveInv := by
  obtain ⟨-, -, hpayload, hcount⟩ := h
  refine ⟨?_, by simp [opened], fun hvalid => ?_, hcount⟩
  · simp only [appendRxb_rxlen, appendRxb_explen]
    omega
  · obtain ⟨hfull, -⟩ := hpayload hvalid
    omega

theorem receiveInv_rxReject {s : State} (h : s.ReceiveInv) : (latchPayload none s).ReceiveInv := by
  obtain ⟨hlen, hidle, -, -⟩ := h
  refine ⟨hlen, fun hi => ?_, by simp, by simp⟩
  obtain ⟨hnone, hexp, -⟩ := hidle hi
  exact ⟨hnone, hexp, rfl⟩

/-- What `decode` accepts is what R34 says of a valid payload: its length tests and its words (42_frame.md R123). -/
theorem payloadMirrorsFrame_rxAccept {s : State} {ws : List Word}
    (accepts : decodeFrame s.params.termCheck s.rxb s.explen.val = some ws) :
    (latchPayload (some ws) s).PayloadMirrorsFrame := by
  intro _
  obtain ⟨hcount, hmax⟩ := decodeFrame_length _ _ _ _ accepts
  obtain ⟨hfull, hlong, heven, -, -, hws⟩ := (decodeFrame_eq_some_iff _ _ _ _).1 accepts
  have hpcount : (latchPayload (some ws) s).pcount.val = ws.length := Nat.mod_eq_of_lt (by omega)
  refine ⟨hfull, hfull ▸ hlong, hfull ▸ heven, hpcount.trans hcount, fun i hi => ?_⟩
  have hi' : i < ws.length := hpcount ▸ hi
  rw [readPw_latchPayload_some (by omega) hi']
  subst hws
  exact payloadWords_getElem _ _ i hi'

theorem receiveInv_rxAccept {s : State} {ws : List Word}
    (accepts : decodeFrame s.params.termCheck s.rxb s.explen.val = some ws) (h : s.ReceiveInv) :
    (latchPayload (some ws) s).ReceiveInv := by
  obtain ⟨hlen, hidle, -, -⟩ := h
  have hmirrors := payloadMirrorsFrame_rxAccept accepts
  obtain ⟨-, hlong, -⟩ := hmirrors rfl
  refine ⟨hlen, fun hi => ?_, hmirrors, by simp⟩
  obtain ⟨-, hexp, -⟩ := hidle hi
  exact absurd (hexp ▸ hlong) (by decide)

/-! ### Steps -/

/-- A command's writes keep the invariants: the parts it does not write are those of the state before it. -/
theorem writes_keeps_inv {i : Instr} {s u : State} (writes : Writes i s u) (h : s.Inv) : u.Inv := by
  obtain ⟨htx, hrx, herr⟩ := (inv_iff_parts s).1 h
  cases writes with
  | nothing | crcInit | crcByte => exact h
  | txBegin a => exact (inv_iff_parts _).2 ⟨transmitInv_txBegin a htx, hrx, herr⟩
  | txByte b opened room => exact (inv_iff_parts _).2 ⟨transmitInv_txByte opened room htx, hrx, herr⟩
  | txEnd opened => exact (inv_iff_parts _).2 ⟨transmitInv_txEnd opened htx, hrx, herr⟩
  | rxBegin e => exact (inv_iff_parts _).2 ⟨htx, receiveInv_rxBegin s e, herr⟩
  | rxByte b opened room => exact (inv_iff_parts _).2 ⟨htx, receiveInv_rxByte opened room hrx, herr⟩
  | rxAccept accepts => exact (inv_iff_parts _).2 ⟨htx, receiveInv_rxAccept accepts hrx, herr⟩
  | rxReject => exact (inv_iff_parts _).2 ⟨htx, receiveInv_rxReject hrx, herr⟩
  | srst => exact resetMeetsTheInvariants s.params htx.1

/-- A failure sets LASTERR and ERRSEEN together (60_exceptions.md R201). -/
theorem failed_keeps_inv {s : State} (st : Status) (rw : ResponseWord) (h : s.Inv) :
    State.Inv { s with lasterr := st, errseen := true, response := some rw } := by
  obtain ⟨htx, hrx, -⟩ := (inv_iff_parts s).1 h
  exact (inv_iff_parts _).2 ⟨htx, hrx, nofun, fun _ => rfl⟩

theorem exec_keeps_inv {i : Instr} {s t : State} (h : exec i s = .next t) (hs : s.Inv) : t.Inv := by
  cases exec_leaves h with
  | good writes d =>
    have hu := writes_keeps_inv writes hs
    exact hu
  | failed => exact failed_keeps_inv _ _ hs

/-- Settles O12: taking the word touches no invariant, and neither refusing it nor performing its command breaks one. -/
theorem everyStepKeepsTheInvariants : Obligations.EveryStepKeepsTheInvariants := by
  intro s t hs h
  obtain rfl | ⟨rest, hill | ⟨i, hexec⟩⟩ := step_cases h
  · exact hs
  · obtain rfl := (raise_eq_next_iff _ _ _).1 hill
    exact failed_keeps_inv _ _ hs
  · exact exec_keeps_inv hexec hs

end Sys2Proof.Machine
end

section
/-!
SUPPORT. Two states that R36 lets no command tell apart answer every command alike, and are alike afterwards.
-/

namespace Sys2Proof.Machine

/-- What `SameObservable` says of the second state: it is the first with another PW, alike where PW may be read. -/
theorem sameObservable_iff (s t : State) :
    s.SameObservable t ↔
      ∃ p : Vector Word 124, t = { s with pw := p } ∧ (s.valid = true → ∀ i, i < s.pcount.val → readPw s i = readPw t i) := by
  constructor
  · rintro ⟨heq, hread⟩
    exact ⟨t.pw, heq.symm, hread⟩
  · rintro ⟨p, rfl, hread⟩
    exact ⟨rfl, hread⟩

/-- Whatever the first result leaves, the second leaves a state no command can tell from it. -/
def ResultsAgree (r r' : Result) : Prop :=
  ∀ s', r = .next s' → ∃ t', r' = .next t' ∧ s'.SameObservable t'

theorem respond_agree {d : Data} {s t : State} (h : s.SameObservable t) : ResultsAgree (respond d s) (respond d t) := by
  obtain ⟨p, rfl, hread⟩ := (sameObservable_iff s t).1 h
  intro s' hs'
  obtain rfl := (respond_eq_next_iff d s s').1 hs'
  exact ⟨_, rfl, rfl, hread⟩

theorem raise_agree {st : Status} {s t : State} (h : s.SameObservable t) : ResultsAgree (raise st s) (raise st t) := by
  obtain ⟨p, rfl, hread⟩ := (sameObservable_iff s t).1 h
  intro s' hs'
  obtain rfl := (raise_eq_next_iff st s s').1 hs'
  exact ⟨_, rfl, rfl, hread⟩

/-- Two results that branch on the same condition agree if their branches do. -/
theorem ite_agree {c : Prop} [Decidable c] {r₁ r₁' r₂ r₂' : Result} (h₁ : ResultsAgree r₁ r₁')
    (h₂ : ¬ c → ResultsAgree r₂ r₂') : ResultsAgree (if c then r₁ else r₂) (if c then r₁' else r₂') := by
  by_cases hc : c
  · simpa only [if_pos hc] using h₁
  · simpa only [if_neg hc] using h₂ hc

/-- The gate is one of the components that agree, and the word it lets through may be read. -/
theorem readWordAs_agree {s t : State} (h : s.SameObservable t) (i : Nat) (dataOf : Word → Data) :
    ResultsAgree (readWordAs i dataOf s) (readWordAs i dataOf t) := by
  have hgate : gate t i = gate s i := by
    obtain ⟨p, rfl, -⟩ := (sameObservable_iff s t).1 h
    rfl
  have hread := h.2
  unfold readWordAs
  rw [hgate]
  rcases gate_cases s i with ⟨-, hg⟩ | ⟨-, -, hg⟩ | ⟨hv, hi, hg⟩
  · rw [hg]
    exact raise_agree h
  · rw [hg]
    exact raise_agree h
  · rw [hg, hread hv i hi]
    exact respond_agree h

/-- Every word a layout names is below its word count, which is PCOUNT once the refusals are past. -/
theorem execLayout_agree {s t : State} (h : s.SameObservable t) (l : LayoutId) (j : Byte) :
    ResultsAgree (execLayout l j s) (execLayout l j t) := by
  obtain ⟨p, rfl, hread⟩ := (sameObservable_iff s t).1 h
  unfold execLayout
  cases hrow : layoutRow l j with
  | none => exact raise_agree h
  | some row =>
    refine ite_agree (raise_agree h) fun hvalid => ite_agree (raise_agree h) fun hcount => ?_
    have hword : row.word < s.pcount.val := by
      rw [not_not.1 hcount]
      exact layoutRow_word_lt l j row hrow
    rw [hread (Bool.eq_true_of_not_eq_false hvalid) row.word hword]
    exact respond_agree h

/-- An accepted frame makes the words below PCOUNT readable and overwrites them all; a rejected one makes none readable. -/
theorem latchPayload_agree {s t : State} (h : s.SameObservable t) (r : Option (List Word)) :
    (latchPayload r s).SameObservable (latchPayload r t) := by
  obtain ⟨p, rfl, -⟩ := (sameObservable_iff s t).1 h
  cases r with
  | none => exact ⟨rfl, nofun⟩
  | some ws =>
    refine ⟨rfl, fun _ i hi => ?_⟩
    have hlt : i < 124 := by have := (latchPayload (some ws) s).pcount.isLt; omega
    have hws : i < ws.length := hi.trans_le (pcount_latchPayload_some_le ws s)
    rw [readPw_latchPayload_some hlt hws, readPw_latchPayload_some hlt hws]

/-- RX_CHECK's response is VALID and PCOUNT, which are among the components that agree. -/
theorem respond_payloadImage_agree {s t : State} (h : s.SameObservable t) :
    ResultsAgree (respond (payloadImage s.valid s.pcount.val) s) (respond (payloadImage t.valid t.pcount.val) t) := by
  obtain ⟨p, rfl, -⟩ := (sameObservable_iff s t).1 h
  exact respond_agree h

theorem execTxRead_eq_elim (i : Byte) (s : State) :
    execTxRead i s = (readTxb s i.toNat).elim (raise .index s) fun b => respond (b.setWidth 24) s := by
  unfold execTxRead
  cases readTxb s i.toNat <;> rfl

theorem execRxRead_eq_elim (i : Byte) (s : State) :
    execRxRead i s = (readRxb s i.toNat).elim (raise .index s) fun b => respond (b.setWidth 24) s := by
  unfold execRxRead
  cases readRxb s i.toNat <;> rfl

/-- TX_READ and RX_READ: INDEX, or the byte the buffer holds. -/
theorem readByte_agree {s t : State} (h : s.SameObservable t) (byte : Option Byte) :
    ResultsAgree (byte.elim (raise .index s) fun b => respond (b.setWidth 24) s)
      (byte.elim (raise .index t) fun b => respond (b.setWidth 24) t) := by
  cases byte with
  | none => exact raise_agree h
  | some b => exact respond_agree h

/-- Only the payload commands read PW, and only RX_CHECK and SRST write it; every other command's guard, data and writes are of the
components that agree. -/
theorem exec_agree {s t : State} (h : s.SameObservable t) (i : Instr) : ResultsAgree (exec i s) (exec i t) := by
  obtain ⟨p, rfl, hread⟩ := (sameObservable_iff s t).1 h
  cases i with
  | nop | crcRead | txLen | rxLen | sign | plen | status => exact respond_agree h
  | crcInit | crcByte | txBegin => exact respond_agree ⟨rfl, hread⟩
  | rxBegin | srst => exact respond_agree ⟨rfl, nofun⟩
  | txByte | rxByte =>
    exact ite_agree (raise_agree h) fun _ => ite_agree (raise_agree h) fun _ => respond_agree ⟨rfl, hread⟩
  | txEnd => exact ite_agree (raise_agree h) fun _ => respond_agree ⟨rfl, hread⟩
  | txRead i =>
    simp only [exec, execTxRead_eq_elim]
    exact readByte_agree h (readTxb s i.toNat)
  | rxRead i =>
    simp only [exec, execRxRead_eq_elim]
    exact readByte_agree h (readRxb s i.toNat)
  | rxCheck =>
    exact respond_payloadImage_agree (latchPayload_agree h (decodeFrame s.params.termCheck s.rxb s.explen.val))
  | word i => exact readWordAs_agree h _ _
  | field i g k => exact readWordAs_agree h _ _
  | bal i c => exact readWordAs_agree h _ _
  | layout l j => exact execLayout_agree h l j

theorem commands_of_sameObservable {s t : State} (h : s.SameObservable t) : t.commands = s.commands := by
  obtain ⟨p, rfl, -⟩ := (sameObservable_iff s t).1 h
  rfl

theorem sameObservable_with_commands {s t : State} (h : s.SameObservable t) (rest : List CommandWord) :
    State.SameObservable { s with commands := rest } { t with commands := rest } := by
  obtain ⟨p, rfl, hread⟩ := (sameObservable_iff s t).1 h
  exact ⟨rfl, hread⟩

/-- Settles O54: both states have the same word on the port, and refusing it or performing its command keeps them alike. -/
theorem unreadableWordsAreUnobservable : Obligations.UnreadableWordsAreUnobservable := by
  intro s s' t h hstep
  have hcommands := commands_of_sameObservable h
  cases hport : s.commands with
  | nil =>
    rw [step_of_commands_nil hport] at hstep
    cases hstep
    exact ⟨t, step_of_commands_nil (hcommands.trans hport), h⟩
  | cons cw rest =>
    have htaken := sameObservable_with_commands h rest
    cases hdecode : decodeCW cw with
    | error why =>
      rw [step_of_decode_error hport hdecode] at hstep
      rw [step_of_decode_error (hcommands.trans hport) hdecode]
      exact raise_agree htaken s' hstep
    | ok i =>
      rw [step_of_decode_ok hport hdecode] at hstep
      rw [step_of_decode_ok (hcommands.trans hport) hdecode]
      exact exec_agree htaken i s' hstep

end Sys2Proof.Machine
end

section
/-!
SUPPORT. No command looks at the words still on the port or at the last response, so what a sequence of words does is fixed
before the words that follow it are known (20_memory.md R51; log entries 1 and 2).
-/

namespace Sys2Proof.Machine

/-- A result with other words left on the port. -/
def withCommandsLeft (cws : List CommandWord) : Result → Result
  | .next s => .next { s with commands := cws }
  | .fault f => .fault f
  | .refused why => .refused why

/-- A good answer writes the response anew, so the last one does not show in it; nor does it read the port. -/
theorem respond_ignores_port (d : Data) (s : State) (cws : List CommandWord) (rw : Option ResponseWord) :
    respond d { s with commands := cws, response := rw } = withCommandsLeft cws (respond d s) := rfl

theorem raise_ignores_port (st : Status) (s : State) (cws : List CommandWord) (rw : Option ResponseWord) :
    raise st { s with commands := cws, response := rw } = withCommandsLeft cws (raise st s) := rfl

/-- A guard that reads no port field lets the port fields through if both its branches do. -/
theorem ite_ignores_port {c : Prop} [Decidable c] {cws : List CommandWord} {r₁ r₁' r₂ r₂' : Result}
    (h₁ : r₁' = withCommandsLeft cws r₁) (h₂ : r₂' = withCommandsLeft cws r₂) :
    (if c then r₁' else r₂') = withCommandsLeft cws (if c then r₁ else r₂) := by
  rw [h₁, h₂, apply_ite (withCommandsLeft cws)]

theorem readByte_ignores_port (byte : Option Byte) (s : State) (cws : List CommandWord) (rw : Option ResponseWord) :
    (byte.elim (raise .index { s with commands := cws, response := rw })
        fun b => respond (b.setWidth 24) { s with commands := cws, response := rw }) =
      withCommandsLeft cws (byte.elim (raise .index s) fun b => respond (b.setWidth 24) s) := by
  cases byte <;> rfl

theorem readWordAs_ignores_port (i : Nat) (dataOf : Word → Data) (s : State) (cws : List CommandWord)
    (rw : Option ResponseWord) :
    readWordAs i dataOf { s with commands := cws, response := rw } = withCommandsLeft cws (readWordAs i dataOf s) := by
  have hgate : gate { s with commands := cws, response := rw } i = gate s i := rfl
  unfold readWordAs
  rw [hgate]
  cases gate s i <;> rfl

theorem execLayout_ignores_port (l : LayoutId) (j : Byte) (s : State) (cws : List CommandWord) (rw : Option ResponseWord) :
    execLayout l j { s with commands := cws, response := rw } = withCommandsLeft cws (execLayout l j s) := by
  unfold execLayout
  cases layoutRow l j with
  | none => rfl
  | some row => exact ite_ignores_port rfl (ite_ignores_port rfl rfl)

theorem latchPayload_ignores_port (r : Option (List Word)) (s : State) (cws : List CommandWord) (rw : Option ResponseWord) :
    latchPayload r { s with commands := cws, response := rw } =
      { latchPayload r s with commands := cws, response := rw } := by
  cases r <;> rfl

theorem execRxCheck_ignores_port (s : State) (cws : List CommandWord) (rw : Option ResponseWord) :
    execRxCheck { s with commands := cws, response := rw } = withCommandsLeft cws (execRxCheck s) := by
  unfold execRxCheck
  simp only [latchPayload_ignores_port]
  rfl

/-- What a command does and answers does not depend on the words behind it, nor on the response before it. -/
theorem exec_ignores_port (i : Instr) (s : State) (cws : List CommandWord) (rw : Option ResponseWord) :
    exec i { s with commands := cws, response := rw } = withCommandsLeft cws (exec i s) := by
  cases i with
  | nop | crcRead | txLen | rxLen | sign | plen | status | crcInit | crcByte | txBegin | rxBegin | srst => rfl
  | txByte | rxByte => exact ite_ignores_port rfl (ite_ignores_port rfl rfl)
  | txEnd => exact ite_ignores_port rfl rfl
  | txRead i =>
    simp only [exec, execTxRead_eq_elim]
    exact readByte_ignores_port (readTxb s i.toNat) s cws rw
  | rxRead i =>
    simp only [exec, execRxRead_eq_elim]
    exact readByte_ignores_port (readRxb s i.toNat) s cws rw
  | rxCheck => exact execRxCheck_ignores_port s cws rw
  | word i => exact readWordAs_ignores_port _ _ s cws rw
  | field i g k => exact readWordAs_ignores_port _ _ s cws rw
  | bal i c => exact readWordAs_ignores_port _ _ s cws rw
  | layout l j => exact execLayout_ignores_port l j s cws rw

/-- Every command answers: no status stops the block (60_exceptions.md R205). -/
theorem exec_completes (i : Instr) (s : State) : ∃ t : State, exec i s = .next t := by
  obtain ⟨d, s', good⟩ | ⟨st, -, hraise⟩ := exec_cases i s
  · exact ⟨_, good.answer⟩
  · exact ⟨_, hraise⟩

/-- A word on the port is performed whole, to an end that the words behind it have no part in. -/
theorem step_completes_before_rest (cw : CommandWord) (s : State) :
    ∃ t : State, ∀ rest : List CommandWord,
      step { s with commands := cw :: rest } = .next { t with commands := rest } := by
  cases hdecode : decodeCW cw with
  | error why =>
    exact ⟨{ s with lasterr := .illegal, errseen := true, response := some (responseWord .illegal 0) },
      fun rest => step_of_decode_error rfl hdecode⟩
  | ok i =>
    obtain ⟨t, ht⟩ := exec_completes i s
    refine ⟨t, fun rest => ?_⟩
    calc step { s with commands := cw :: rest }
      _ = exec i { s with commands := rest } := step_of_decode_ok rfl hdecode
      _ = withCommandsLeft rest (exec i s) := exec_ignores_port i s rest s.response
      _ = .next { t with commands := rest } := by rw [ht]; rfl

theorem run_succ_of_step {s t : State} (n : Nat) (h : step s = .next t) :
    Sys2Proof.core.run (n + 1) s = Sys2Proof.core.run n t := by
  have hcore : Sys2Proof.core.step s = .next t := h
  simp only [Host.Core.run, hcore]

/-- Settles O9, by induction on the words: the first word's step leaves one state whatever follows, and the rest run from it. -/
theorem commandSequencesCompleteInOrder : Obligations.CommandSequencesCompleteInOrder := by
  intro cws
  induction cws with
  | nil => exact fun s => ⟨s, fun rest => rfl⟩
  | cons cw cws ih =>
    intro s
    obtain ⟨u, hstep⟩ := step_completes_before_rest cw s
    obtain ⟨t, hrun⟩ := ih u
    exact ⟨t, fun rest => (run_succ_of_step cws.length (hstep (cws ++ rest))).trans (hrun rest)⟩

end Sys2Proof.Machine
end

section
/-!
SUPPORT. The received bytes and EXPLEN fix a valid payload (10_state.md R34 item 5), so the payload changes only with them.
-/

namespace Sys2Proof.Machine

/-- Two valid payloads of the same frame have the same words (20_memory.md R47). -/
theorem payload_eq_of_frame_eq {s t : State} (hs : s.PayloadMirrorsFrame) (ht : t.PayloadMirrorsFrame)
    (hsv : s.valid = true) (htv : t.valid = true) (hrxb : t.rxb = s.rxb) (hexplen : t.explen = s.explen) :
    t.pcount = s.pcount ∧ ∀ n, n < s.pcount.val → readPw t n = readPw s n := by
  obtain ⟨-, -, -, hscount, hswords⟩ := hs hsv
  obtain ⟨-, -, -, htcount, htwords⟩ := ht htv
  have hcount : t.pcount = s.pcount := Fin.ext (by rw [htcount, hscount, hexplen])
  refine ⟨hcount, fun n hn => ?_⟩
  rw [hswords n hn, htwords n (hcount ▸ hn), hrxb]

/-- With a valid payload RXB is full, so the writes that touch the received frame are those that make VALID 0: a further byte is
refused (42_frame.md R131), and accepting the frame again latches the words it holds already. -/
theorem writes_keeps_accepted_frame {i : Instr} {s u : State} (writes : Writes i s u) (hs : s.PayloadMirrorsFrame)
    (hsv : s.valid = true) (huv : u.valid = true) :
    u.rxb = s.rxb ∧ u.explen = s.explen ∧ u.pcount = s.pcount ∧ ∀ n, n < s.pcount.val → readPw u n = readPw s n := by
  cases writes with
  | nothing | crcInit | crcByte | txBegin | txByte | txEnd => exact ⟨rfl, rfl, rfl, fun _ _ => rfl⟩
  | rxBegin | rxReject | srst => cases huv
  | rxByte b opened room =>
    obtain ⟨hfull, -⟩ := hs hsv
    omega
  | rxAccept accepts =>
    exact ⟨rfl, rfl, payload_eq_of_frame_eq hs (payloadMirrorsFrame_rxAccept accepts) hsv rfl rfl rfl⟩

/-- Settles O36: a failure touches the error state alone, and a success leaves the accepted frame as it was. -/
theorem acceptedFrameCannotBeAltered : Obligations.AcceptedFrameCannotBeAltered := by
  intro i s t hinv hsv hexec htv
  obtain ⟨-, ⟨-, -, hpayload, -⟩, -⟩ := (inv_iff_parts s).1 hinv
  cases exec_leaves hexec with
  | good writes d =>
    have hkept := writes_keeps_accepted_frame writes hpayload hsv htv
    exact hkept
  | failed => exact ⟨rfl, rfl, rfl, fun _ _ => rfl⟩

end Sys2Proof.Machine
end

section
/-!
SUPPORT. The commands of 20_memory.md R49: the read commands, and RX_CHECK on a frame it has checked before.
-/

namespace Sys2Proof.Machine

/-- Repeating a command on the state with its own answer on the port gives that answer again. -/
theorem exec_again_of_only_response_changed {i : Instr} {s t : State} (hexec : exec i s = .next t)
    (hsame : t = { s with response := t.response }) : exec i t = .next t := by
  have hcommands : t.commands = s.commands := by rw [hsame]
  calc exec i t
    _ = exec i { s with response := t.response } := congrArg (exec i) hsame
    _ = withCommandsLeft s.commands (exec i s) := exec_ignores_port i s s.commands t.response
    _ = .next { t with commands := s.commands } := by rw [hexec]; rfl
    _ = .next t := by rw [← hcommands]

/-- A read command that succeeds changes the response alone; one that fails has R201's effect. -/
theorem exec_readsOnly_cases {i : Instr} (s : State) (reads : readsOnly i = true) :
    ∃ t : State, exec i s = .next t ∧
      ((t = { s with response := t.response } ∧ exec i t = .next t) ∨
        ∃ st : Status, st ≠ .ok ∧ Claims.Raises i s st) := by
  obtain ⟨d, s', good⟩ | ⟨st, notOk, hraise⟩ := exec_cases i s
  · obtain rfl := good.reads reads
    exact ⟨_, good.answer, .inl ⟨rfl, exec_again_of_only_response_changed good.answer rfl⟩⟩
  · exact ⟨_, hraise, .inr ⟨st, notOk, hraise⟩⟩

/-- The state RX_CHECK answers from: what it decodes, latched (42_frame.md R132). -/
def afterCheck (s : State) : State := latchPayload (decodeFrame s.params.termCheck s.rxb s.explen.val) s

theorem exec_rxCheck (s : State) :
    exec .rxCheck s = respond (payloadImage (afterCheck s).valid (afterCheck s).pcount.val) (afterCheck s) := rfl

/-- RX_CHECK writes nothing that the next RX_CHECK decodes. -/
theorem afterCheck_keeps_frame (s : State) :
    (afterCheck s).rxb = s.rxb ∧ (afterCheck s).explen = s.explen ∧ (afterCheck s).params = s.params := by
  unfold afterCheck
  cases decodeFrame s.params.termCheck s.rxb s.explen.val <;> exact ⟨rfl, rfl, rfl⟩

/-- States with the same frame, EXPLEN and parameters decode alike: a rejected frame leaves no payload, and an accepted one the
payload that the frame fixes. -/
theorem afterCheck_payload_eq {s u : State} (hrxb : u.rxb = s.rxb) (hexplen : u.explen = s.explen)
    (hparams : u.params = s.params) :
    (afterCheck u).valid = (afterCheck s).valid ∧ (afterCheck u).pcount = (afterCheck s).pcount ∧
      ∀ n, n < (afterCheck s).pcount.val → readPw (afterCheck u) n = readPw (afterCheck s) n := by
  have hdecode : decodeFrame u.params.termCheck u.rxb u.explen.val = decodeFrame s.params.termCheck s.rxb s.explen.val := by
    rw [hrxb, hexplen, hparams]
  unfold afterCheck
  rw [hdecode]
  cases hs : decodeFrame s.params.termCheck s.rxb s.explen.val with
  | none => exact ⟨rfl, rfl, nofun⟩
  | some ws =>
    have hpayload := payload_eq_of_frame_eq (payloadMirrorsFrame_rxAccept hs)
      (payloadMirrorsFrame_rxAccept (hdecode.trans hs)) rfl rfl hrxb hexplen
    exact ⟨rfl, hpayload⟩

/-- RX_CHECK on a frame checked before finds the same payload, whatever else has changed since. -/
theorem exec_rxCheck_again {s t u : State} (hexec : exec .rxCheck s = .next t) (hrxb : u.rxb = t.rxb)
    (hexplen : u.explen = t.explen) (hparams : u.params = t.params) :
    ∃ v : State, exec .rxCheck u = .next v ∧ v.valid = t.valid ∧ v.pcount = t.pcount ∧ v.response = t.response ∧
      ∀ n : Nat, n < t.pcount.val → readPw v n = readPw t n := by
  rw [exec_rxCheck, respond_eq_next_iff] at hexec
  subst hexec
  obtain ⟨hrxb', hexplen', hparams'⟩ := afterCheck_keeps_frame s
  obtain ⟨hvalid, hpcount, hwords⟩ :=
    afterCheck_payload_eq (hrxb.trans hrxb') (hexplen.trans hexplen') (hparams.trans hparams')
  have himage : payloadImage (afterCheck u).valid (afterCheck u).pcount.val =
      payloadImage (afterCheck s).valid (afterCheck s).pcount.val := by rw [hvalid, hpcount]
  exact ⟨_, exec_rxCheck u, hvalid, hpcount, congrArg (fun d => some (responseWord .ok d)) himage, hwords⟩

/-- Settles O53: no read command looks at the last response, and RX_CHECK's result depends only on what it decodes. -/
theorem readCommandsChangeNothing : Obligations.ReadCommandsChangeNothing :=
  ⟨fun _ s reads _ => exec_readsOnly_cases s reads, fun _ _ _ => exec_rxCheck_again⟩

end Sys2Proof.Machine
end

section
/-!
SUPPORT. The bits of a field of a word, the rows of R65 that share a format of R61, and the first half of 30_encoding.md R67:
decoding undoes encoding.
-/

namespace Sys2Proof.Laws

/-- Two fields side by side make a word just when they are the two parts of it. -/
theorem append_eq_iff {n k : Nat} (x : BitVec n) (y : BitVec k) (z : BitVec (n + k)) :
    x ++ y = z ↔ z.extractLsb' k n = x ∧ z.extractLsb' 0 k = y := by
  constructor
  · rintro rfl
    exact ⟨BitVec.extractLsb'_append_eq_left, BitVec.extractLsb'_append_eq_right⟩
  · rintro ⟨rfl, rfl⟩
    rw [BitVec.extractLsb'_append_extractLsb'_eq_extractLsb' (Nat.zero_add k).symm, BitVec.extractLsb'_eq_self]

/-- A field of a field is a field of the word. -/
theorem extractLsb'_extractLsb' {w len k : Nat} (z : BitVec w) (start t : Nat) (h : t + k ≤ len) :
    (z.extractLsb' start len).extractLsb' t k = z.extractLsb' (start + t) k := by
  apply BitVec.eq_of_getLsbD_eq
  intro n hn
  simp [hn, show t + n < len by omega, Nat.add_assoc]

/-- A field of one bit is that bit. -/
theorem extractLsb'_one_eq_ofBool {w : Nat} (z : BitVec w) (n : Nat) : z.extractLsb' n 1 = BitVec.ofBool (z.getLsbD n) := by
  have hbit : ∀ y : BitVec 1, y = BitVec.ofBool (y == 1#1) := by decide
  rw [BitVec.getLsbD_eq_extractLsb', ← hbit]

/-- The B of FIELD: bits 15:5 zero, S in bit 4, K in bits 3:0 (R61). -/
theorem operandB_field_eq_iff (x : Byte) (s : Bool) (k : BitVec 4) (b : BitVec 16) :
    (Instr.field x s k).operandB = b ↔ b.extractLsb' 5 11 = 0 ∧ b.getLsbD 4 = s ∧ b.extractLsb' 0 4 = k := by
  have hhigh : (b.extractLsb' 4 12).extractLsb' 1 11 = b.extractLsb' 5 11 := extractLsb'_extractLsb' b 4 1 (by omega)
  have hs : (b.extractLsb' 4 12).extractLsb' 0 1 = BitVec.ofBool (b.getLsbD 4) :=
    (extractLsb'_extractLsb' b 4 0 (by omega)).trans (extractLsb'_one_eq_ofBool b 4)
  have hbool : ∀ t u : Bool, BitVec.ofBool t = BitVec.ofBool u ↔ t = u := by decide
  calc (0#11 ++ BitVec.ofBool s ++ k : BitVec 16) = b
    _ ↔ b.extractLsb' 4 12 = (0#11 ++ BitVec.ofBool s : BitVec 12) ∧ b.extractLsb' 0 4 = k :=
      append_eq_iff (n := 12) (k := 4) _ _ b
    _ ↔ (b.extractLsb' 5 11 = 0 ∧ b.getLsbD 4 = s) ∧ b.extractLsb' 0 4 = k := by
      rw [eq_comm, append_eq_iff (n := 11) (k := 1), hhigh, hs, hbool]
      rfl
    _ ↔ _ := and_assoc

/-- The B of BAL: bits 15:2 zero, C in bits 1:0 (R61). -/
theorem operandB_bal_eq_iff (x : Byte) (c : BitVec 2) (b : BitVec 16) :
    (Instr.bal x c).operandB = b ↔ b.extractLsb' 2 14 = 0 ∧ b.extractLsb' 0 2 = c := append_eq_iff (n := 14) _ c b

/-- The B of LAYOUT: bits 15:8 zero, J in bits 7:0 (R61). -/
theorem operandB_layout_eq_iff (l : LayoutId) (j : Byte) (b : BitVec 16) :
    (Instr.layout l j).operandB = b ↔ b.extractLsb' 8 8 = 0 ∧ b.extractLsb' 0 8 = j := append_eq_iff (n := 8) _ j b

/-- A byte names a layout just when it is the layout's code (R62). -/
theorem layoutOfByte_eq_some_iff (a : Byte) (l : LayoutId) : layoutOfByte a = some l ↔ l.code = a := by
  constructor
  · unfold layoutOfByte
    split_ifs <;> rintro ⟨⟩ <;> simp [*, LayoutId.code]
  · rintro rfl
    cases l <;> rfl

/-- LAYOUT's row gives the command that A and B[7:0] name, where there is one (R65). -/
theorem layoutCommand_eq_some_iff (a : Byte) (b : BitVec 16) (i : Instr) :
    layoutCommand a b = some i ↔
      ∃ l : LayoutId, l.code = a ∧ (b.extractLsb' 0 8).toNat < l.fieldCount ∧ .layout l (b.extractLsb' 0 8) = i := by
  simp only [← layoutOfByte_eq_some_iff]
  unfold layoutCommand
  cases layoutOfByte a <;> simp

/-- The commands of format N (R61, R65). -/
def plainCommands : List Instr := [.nop, .crcInit, .crcRead, .txEnd, .txLen, .rxCheck, .rxLen, .plen, .status, .srst]

/-- The commands of format A8 (R61, R65). -/
def byteCommands : List (Byte → Instr) := [.crcByte, .txBegin, .txByte, .txRead, .rxBegin, .rxByte, .rxRead, .word]

theorem decodeCW_plain {i : Instr} (hi : i ∈ plainCommands) (a : Byte) (b : BitVec 16) :
    decodeCW (i.opcode ++ a ++ b) = if a = 0 ∧ b = 0 then .ok i else .error .field := by
  simp only [plainCommands, List.mem_cons, List.not_mem_nil, or_false] at hi
  obtain rfl | rfl | rfl | rfl | rfl | rfl | rfl | rfl | rfl | rfl := hi
  exacts [decodeCW_nop a b, decodeCW_crcInit a b, decodeCW_crcRead a b, decodeCW_txEnd a b, decodeCW_txLen a b,
    decodeCW_rxCheck a b, decodeCW_rxLen a b, decodeCW_plen a b, decodeCW_status a b, decodeCW_srst a b]

theorem decodeCW_byte {f : Byte → Instr} (hf : f ∈ byteCommands) (x a : Byte) (b : BitVec 16) :
    decodeCW ((f x).opcode ++ a ++ b) = if b = 0 then .ok (f a) else .error .field := by
  simp only [byteCommands, List.mem_cons, List.not_mem_nil, or_false] at hf
  obtain rfl | rfl | rfl | rfl | rfl | rfl | rfl | rfl := hf
  exacts [decodeCW_crcByte a b, decodeCW_txBegin a b, decodeCW_txByte a b, decodeCW_txRead a b, decodeCW_rxBegin a b,
    decodeCW_rxByte a b, decodeCW_rxRead a b, decodeCW_word a b]

/-- A command of format N is well formed, and its operand fields are zero. -/
theorem plain_operands {i : Instr} (hi : i ∈ plainCommands) : i.WellFormed ∧ i.operandA = 0 ∧ i.operandB = 0 := by
  have hall : ∀ i ∈ plainCommands, i.WellFormed ∧ i.operandA = 0 ∧ i.operandB = 0 := by decide
  exact hall i hi

/-- A command of format A8 is well formed; its operand is A, and B is zero. -/
theorem byte_operands {f : Byte → Instr} (hf : f ∈ byteCommands) (a : Byte) :
    (f a).WellFormed ∧ (f a).operandA = a ∧ (f a).operandB = 0 := by
  simp only [byteCommands, List.mem_cons, List.not_mem_nil, or_false] at hf
  obtain rfl | rfl | rfl | rfl | rfl | rfl | rfl | rfl := hf <;> exact ⟨rfl, rfl, rfl⟩

theorem decodeCW_encode_plain {i : Instr} (hi : i ∈ plainCommands) : decodeCW (encode i) = .ok i := by
  obtain ⟨-, hA, hB⟩ := plain_operands hi
  exact (decodeCW_plain hi _ _).trans (if_pos ⟨hA, hB⟩)

theorem decodeCW_encode_byte {f : Byte → Instr} (hf : f ∈ byteCommands) (x : Byte) :
    decodeCW (encode (f x)) = .ok (f x) := by
  obtain ⟨-, hA, hB⟩ := byte_operands hf x
  exact (decodeCW_byte hf x _ _).trans (by rw [if_pos hB, hA])

/-- The decoder undoes the encoder, format by format of R61. -/
theorem decodeCW_encode {i : Instr} (h : i.WellFormed) : decodeCW (encode i) = .ok i := by
  cases i with
  | nop | crcInit | crcRead | txEnd | txLen | rxCheck | rxLen | plen | status | srst =>
    exact decodeCW_encode_plain (by decide)
  | crcByte x | txBegin x | txByte x | txRead x | rxBegin x | rxByte x | rxRead x | word x =>
    exact decodeCW_encode_byte (by simp [byteCommands]) x
  | field x s k =>
    obtain ⟨hzero, hs, hk⟩ := (operandB_field_eq_iff x s k _).1 rfl
    exact (decodeCW_field x _).trans (by rw [if_pos hzero, hs, hk])
  | sign v => exact (decodeCW_sign 0 v).trans (if_pos rfl)
  | bal x c =>
    obtain ⟨hzero, hc⟩ := (operandB_bal_eq_iff x c _).1 rfl
    exact (decodeCW_bal x _).trans (by rw [if_pos hzero, hc])
  | layout l j =>
    obtain ⟨hzero, hj⟩ := (operandB_layout_eq_iff l j _).1 rfl
    have hrange : j.toNat < l.fieldCount := of_decide_eq_true h
    have hcommand := (layoutCommand_eq_some_iff l.code (Instr.layout l j).operandB (.layout l j)).2
      ⟨l, rfl, by rwa [hj], by rw [hj]⟩
    exact (decodeCW_layout l.code _).trans (by rw [if_pos hzero, hcommand])

/-- Settles O1: the words of each format, decoded by the rule of their row. -/
theorem decodeOfEncodeIsTheCommand : Obligations.DecodeOfEncodeIsTheCommand := fun _ => decodeCW_encode

/-- Settles O4: each accepted word is the encoding of its command; each refused one fails the test of its row, or has none. -/
theorem wordsOfEveryFormatDecode : Obligations.WordsOfEveryFormatDecode :=
  ⟨decodeCW_encode (i := .txEnd) rfl, decodeCW_encode (i := .crcByte 0xEE) rfl, decodeCW_encode (i := .sign 0xFF38) rfl,
    decodeCW_encode (i := .field 1 true 2) rfl, decodeCW_encode (i := .bal 6 2) rfl,
    decodeCW_encode (i := .layout .soc 5) rfl, decodeCW_encode (i := .srst) rfl, decodeCW_layout 1 5,
    decodeCW_field 1 0x20, rfl⟩

end Sys2Proof.Laws
end

section
/-!
SUPPORT. A step on the word of a known command, and CRC_BLOCK as a sequence of such steps.
-/

namespace Sys2Proof.Machine

open Sys2Proof.Laws

/-- A command's word at the head of the port is performed by the next step (30_encoding.md R67; 60_exceptions.md R210). -/
theorem step_of_encode {i : Instr} {s : State} {rest : List CommandWord} (wf : i.WellFormed)
    (hport : s.commands = encode i :: rest) : step s = exec i { s with commands := rest } :=
  step_of_decode_ok hport (decodeCW_encode wf)

/-- A 32-bit word read as a table word is that word. -/
theorem tableWord_toNat (cw : CommandWord) : tableWord 32 cw.toNat = cw := by
  rw [tableWord, Nat.mod_eq_of_lt cw.isLt, BitVec.ofNat_toNat, BitVec.setWidth_eq]

/-- Settles O6: the word put on the port is the command's own, and taking it leaves the state as it was. -/
theorem fetchedWordOfACommandRunsIt : Obligations.FetchedWordOfACommandRunsIt := by
  intro i s wf
  rw [State.withFetchWord, tableWord_toNat]
  exact step_of_encode wf rfl

/-- OK with a RAW16 value is that value zero-extended (30_encoding.md R63, R64). -/
theorem responseWord_ok_raw16 (c : Word) : responseWord .ok (raw16 c) = c.setWidth 32 := by
  apply BitVec.eq_of_getLsbD_eq
  intro n hn
  have hhigh : c.getLsbD n = true → n < 24 := fun hbit => (BitVec.lt_of_getLsbD hbit).trans (by omega)
  rw [getLsbD_responseWord]
  simpa [raw16, Status.code, hn] using hhigh

/-- A command of known effect whose word is the oldest on the port is the first step of a run. -/
theorem run_succ_encode {i : Instr} {s t : State} {rest : List CommandWord} (n : Nat) (wf : i.WellFormed)
    (hexec : exec i { s with commands := rest } = .next t) :
    Sys2Proof.core.run (n + 1) { s with commands := encode i :: rest } = Sys2Proof.core.run n t :=
  run_succ_of_step n ((step_of_encode wf rfl).trans hexec)

/-- CRC_BYTE folds its byte into CRC and answers it (41_crc.md R108). -/
theorem exec_crcByte (b : Byte) (s : State) : exec (.crcByte b) s =
    .next { s with crc := crcUpdate s.crc b, response := some ((crcUpdate s.crc b).setWidth 32) } := by
  rw [← responseWord_ok_raw16]
  rfl

/-- CRC_READ answers CRC and writes nothing (R109). -/
theorem exec_crcRead (s : State) : exec .crcRead s = .next { s with response := some (s.crc.setWidth 32) } := by
  rw [← responseWord_ok_raw16]
  rfl

/-- The bytes of CRC_BLOCK fold into CRC whatever it holds, and CRC_READ answers it (41_crc.md R108, R109). -/
theorem run_crcBytes_crcRead (bs : List Byte) (s : State) (rest : List CommandWord) :
    Sys2Proof.core.run (bs.length + 1)
        { s with commands := (bs.map Instr.crcByte ++ [Instr.crcRead]).map encode ++ rest } =
      .next { s with
        crc := bs.foldl crcUpdate s.crc
        commands := rest
        response := some ((bs.foldl crcUpdate s.crc).setWidth 32) } := by
  induction bs generalizing s with
  | nil => exact run_succ_encode 0 rfl (exec_crcRead { s with commands := rest })
  | cons b bs ih =>
    exact (run_succ_encode _ rfl (exec_crcByte b _)).trans
      (ih { s with crc := crcUpdate s.crc b, response := some ((crcUpdate s.crc b).setWidth 32) })

/-- Settles O20: CRC_INIT sets the value that `crc16` folds from, and the bytes and CRC_READ follow. -/
theorem crcBlockComputesTheChecksum : Obligations.CrcBlockComputesTheChecksum := by
  intro bs s rest
  exact (run_succ_encode (i := .crcInit) (bs.length + 1) rfl rfl).trans
    (run_crcBytes_crcRead bs { s with crc := 0xFFFF, response := some (responseWord .ok (raw16 0xFFFF)) } rest)

end Sys2Proof.Machine
end

section
/-!
SUPPORT. The decoder's verdict on every word against R66's cases, and with it the other half of 30_encoding.md R67.
-/

namespace Sys2Proof.Laws

open Sys2Proof.Machine Sys2Proof.Claims Sys2Proof.Laws.EncodeFields

/-- R66's cases, on the three fields of a word. -/
def IllegalFields (op a b : Nat) : Prop :=
  UnlistedOpcode op ∨ NonzeroReservedField op a b ∨ LayoutOutOfRange op a b

/-- R66's numbers are the fields of R60. -/
theorem illegalWord_append_iff (op a : Byte) (b : BitVec 16) :
    IllegalWord (op ++ a ++ b) ↔ IllegalFields op.toNat a.toNat b.toNat := by
  obtain ⟨hop, ha, hb⟩ := fields_of_append op a b
  have hlt : (op ++ a ++ b : CommandWord).toNat < 2 ^ 32 := BitVec.isLt _
  have hopNat : (op ++ a ++ b : CommandWord).toNat / 2 ^ 24 = op.toNat := by
    rw [← congrArg BitVec.toNat hop, opField, BitVec.extractLsb'_toNat, Nat.shiftRight_eq_div_pow]
    omega
  have haNat : (op ++ a ++ b : CommandWord).toNat / 2 ^ 16 % 2 ^ 8 = a.toNat := by
    rw [← congrArg BitVec.toNat ha, aField, BitVec.extractLsb'_toNat, Nat.shiftRight_eq_div_pow]
  have hbNat : (op ++ a ++ b : CommandWord).toNat % 2 ^ 16 = b.toNat := by
    rw [← congrArg BitVec.toNat hb, bField, BitVec.extractLsb'_toNat, Nat.shiftRight_zero]
  unfold IllegalWord IllegalFields
  rw [hopNat, haNat, hbNat]

theorem toNat_eq_zero_iff {w : Nat} (x : BitVec w) : x.toNat = 0 ↔ x = 0 := by
  simp [← BitVec.toNat_inj]

/-- The bits of B from k up are zero just when B is below 2^k. -/
theorem high_bits_eq_zero_iff (b : BitVec 16) (k n : Nat) (h : k + n = 16) : b.extractLsb' k n = 0#n ↔ b.toNat < 2 ^ k := by
  have hlt : b.toNat / 2 ^ k < 2 ^ n := by
    rw [Nat.div_lt_iff_lt_mul (Nat.two_pow_pos k), ← Nat.pow_add, Nat.add_comm n k, h]
    exact b.isLt
  rw [← BitVec.toNat_inj, BitVec.extractLsb'_toNat, Nat.shiftRight_eq_div_pow, Nat.mod_eq_of_lt hlt, BitVec.toNat_ofNat,
    Nat.zero_mod, Nat.div_eq_zero_iff_lt (Nat.two_pow_pos k)]

/-! ### R66's cases, opcode by opcode -/

/-- An opcode is in R66's case 1, or it is that of a row of R65's table. -/
theorem opcode_cases (op : Byte) :
    UnlistedOpcode op.toNat ∨ (∃ i ∈ plainCommands, op = i.opcode) ∨ (∃ f ∈ byteCommands, op = (f 0).opcode) ∨
      op = 0x31 ∨ op = 0x32 ∨ op = 0x33 ∨ op = 0x34 := by
  have hlt := op.isLt
  simp only [UnlistedOpcode, plainCommands, byteCommands, List.mem_cons, List.not_mem_nil, or_false, exists_eq_or_imp,
    exists_eq_left, Instr.opcode, ← BitVec.toNat_inj, BitVec.ofNat_eq_ofNat, BitVec.toNat_ofNat]
  omega

/-- No row of R65's table has an opcode of R66's case 1. -/
theorem not_unlistedOpcode_of_mem_opTable {r : OpRow} (hr : r ∈ opTable) : ¬ UnlistedOpcode (opField r.code).toNat := by
  have hall : ∀ r ∈ opTable, ¬ UnlistedOpcode (opField r.code).toNat := by
    unfold UnlistedOpcode
    decide
  exact hall r hr

theorem illegalFields_plain_iff {i : Instr} (hi : i ∈ plainCommands) (a b : Nat) :
    IllegalFields i.opcode.toNat a b ↔ ¬ (a = 0 ∧ b = 0) := by
  rw [not_and_or]
  simp only [plainCommands, List.mem_cons, List.not_mem_nil, or_false] at hi
  obtain rfl | rfl | rfl | rfl | rfl | rfl | rfl | rfl | rfl | rfl := hi <;>
    simp [IllegalFields, UnlistedOpcode, NonzeroReservedField, LayoutOutOfRange, Instr.opcode]

theorem illegalFields_byte_iff {f : Byte → Instr} (hf : f ∈ byteCommands) (x : Byte) (a b : Nat) :
    IllegalFields (f x).opcode.toNat a b ↔ ¬ b = 0 := by
  simp only [byteCommands, List.mem_cons, List.not_mem_nil, or_false] at hf
  obtain rfl | rfl | rfl | rfl | rfl | rfl | rfl | rfl := hf <;>
    simp [IllegalFields, UnlistedOpcode, NonzeroReservedField, LayoutOutOfRange, Instr.opcode]

theorem illegalFields_field_iff (a b : Nat) : IllegalFields 0x31 a b ↔ ¬ b < 32 := by
  simp [IllegalFields, UnlistedOpcode, NonzeroReservedField, LayoutOutOfRange]

theorem illegalFields_sign_iff (a b : Nat) : IllegalFields 0x32 a b ↔ ¬ a = 0 := by
  simp [IllegalFields, UnlistedOpcode, NonzeroReservedField, LayoutOutOfRange]

theorem illegalFields_bal_iff (a b : Nat) : IllegalFields 0x33 a b ↔ ¬ b < 4 := by
  simp [IllegalFields, UnlistedOpcode, NonzeroReservedField, LayoutOutOfRange]

/-- A and J name a field of a layout just when R66 case 3 says so: NF(0) = 7, NF(1) = 5, NF(2) = 7. -/
theorem exists_layout_iff (a : Byte) (j : Nat) :
    (∃ l : LayoutId, l.code = a ∧ j < l.fieldCount) ↔
      (a.toNat = 0 ∧ j < 7) ∨ (a.toNat = 1 ∧ j < 5) ∨ (a.toNat = 2 ∧ j < 7) := by
  constructor
  · rintro ⟨l, rfl, hj⟩
    cases l with
    | volt => exact .inl ⟨rfl, hj⟩
    | temp => exact .inr (.inl ⟨rfl, hj⟩)
    | soc => exact .inr (.inr ⟨rfl, hj⟩)
  · rintro (⟨ha, hj⟩ | ⟨ha, hj⟩ | ⟨ha, hj⟩)
    · exact ⟨.volt, BitVec.eq_of_toNat_eq ha.symm, hj⟩
    · exact ⟨.temp, BitVec.eq_of_toNat_eq ha.symm, hj⟩
    · exact ⟨.soc, BitVec.eq_of_toNat_eq ha.symm, hj⟩

/-- LAYOUT: B[15:8] must be zero (case 2), and A and B[7:0] must name a field (case 3). -/
theorem illegalFields_layout_iff (a : Byte) (b : Nat) :
    IllegalFields 0x34 a.toNat b ↔ ¬ (b < 256 ∧ ∃ l : LayoutId, l.code = a ∧ b % 256 < l.fieldCount) := by
  simp only [exists_layout_iff, IllegalFields, UnlistedOpcode, NonzeroReservedField, LayoutOutOfRange, List.mem_cons,
    List.not_mem_nil, Nat.reduceEqDiff, Nat.reduceLeDiff, false_and, and_false, true_and, or_false, false_or]
  omega

/-! ### The verdict -/

/-- The decoder and R66 agree on a word: it is refused and R66 lists it, or it is the encoding of the command it names and R66
does not list it. -/
inductive Verdict (cw : CommandWord) : Prop where
  | refused (why : Illegal) (decodes : decodeCW cw = .error why) (listed : IllegalWord cw)
  | accepted (i : Instr) (decodes : decodeCW cw = .ok i) (notListed : ¬ IllegalWord cw) (wf : i.WellFormed)
      (encodes : encode i = cw)

/-- A word of R66's case 1 has no row. -/
theorem verdict_of_unlisted {op : Byte} (h : UnlistedOpcode op.toNat) (a : Byte) (b : BitVec 16) :
    Verdict (op ++ a ++ b) := by
  have hnone : opTable.find? (fun r => r.code == opField (op ++ a ++ b) ++ 0#24) = none := by
    rw [List.find?_eq_none, (fields_of_append op a b).1]
    intro r hr hcode
    have hop : opField r.code = op := by
      rw [eq_of_beq hcode]
      exact BitVec.extractLsb'_append_eq_left
    exact not_unlistedOpcode_of_mem_opTable hr (hop ▸ h)
  exact .refused .opcode (by rw [decodeCW, hnone]) ((illegalWord_append_iff op a b).2 (.inl h))

/-- A row that refuses just the words with a nonzero reserved field: every row but LAYOUT's. -/
theorem verdict_of_test {op a : Byte} {b : BitVec 16} {i : Instr} {reservedZero : Prop} [Decidable reservedZero]
    (decodes : decodeCW (op ++ a ++ b) = if reservedZero then .ok i else .error .field)
    (listed : IllegalFields op.toNat a.toNat b.toNat ↔ ¬ reservedZero)
    (named : reservedZero → i.WellFormed ∧ encode i = op ++ a ++ b) : Verdict (op ++ a ++ b) := by
  rw [← illegalWord_append_iff] at listed
  by_cases h : reservedZero
  · obtain ⟨wf, encodes⟩ := named h
    exact .accepted i (decodes.trans (if_pos h)) (fun hlisted => listed.1 hlisted h) wf encodes
  · exact .refused .field (decodes.trans (if_neg h)) (listed.2 h)

theorem verdict_plain {i : Instr} (hi : i ∈ plainCommands) (a : Byte) (b : BitVec 16) : Verdict (i.opcode ++ a ++ b) := by
  obtain ⟨wf, hA, hB⟩ := plain_operands hi
  refine verdict_of_test (decodeCW_plain hi a b) ?_ fun hzero => ⟨wf, ?_⟩
  · rw [illegalFields_plain_iff hi, toNat_eq_zero_iff, toNat_eq_zero_iff]
  · rw [encode, hA, hB, hzero.1, hzero.2]

/-- The opcode of a command of format A8 is the same whatever its operand. -/
theorem byte_opcode {f : Byte → Instr} (hf : f ∈ byteCommands) (x y : Byte) : (f x).opcode = (f y).opcode := by
  simp only [byteCommands, List.mem_cons, List.not_mem_nil, or_false] at hf
  obtain rfl | rfl | rfl | rfl | rfl | rfl | rfl | rfl := hf <;> rfl

theorem verdict_byte {f : Byte → Instr} (hf : f ∈ byteCommands) (x a : Byte) (b : BitVec 16) :
    Verdict ((f x).opcode ++ a ++ b) := by
  obtain ⟨wf, hA, hB⟩ := byte_operands hf a
  refine verdict_of_test (decodeCW_byte hf x a b) ?_ fun hzero => ⟨wf, ?_⟩
  · rw [illegalFields_byte_iff hf, toNat_eq_zero_iff]
  · rw [encode, hA, hB, hzero, byte_opcode hf a x]

/-- LAYOUT's row makes two tests: the reserved field, then the layout and the field index. -/
theorem verdict_layout (a : Byte) (b : BitVec 16) : Verdict (0x34#8 ++ a ++ b) := by
  have listed := (illegalWord_append_iff 0x34#8 a b).trans (illegalFields_layout_iff a b.toNat)
  have hj : (b.extractLsb' 0 8).toNat = b.toNat % 256 := BitVec.extractLsb'_toNat ..
  have hdecode := decodeCW_layout a b
  by_cases hzero : b.extractLsb' 8 8 = 0
  · rw [if_pos hzero] at hdecode
    have hb : b.toNat < 256 := (high_bits_eq_zero_iff b 8 8 rfl).1 hzero
    cases hcommand : layoutCommand a b with
    | none =>
      rw [hcommand] at hdecode
      refine .refused .layout hdecode (listed.2 fun ⟨_, l, hl, hrange⟩ => ?_)
      have hsome := (layoutCommand_eq_some_iff a b _).2 ⟨l, hl, hj ▸ hrange, rfl⟩
      rw [hcommand] at hsome
      cases hsome
    | some i =>
      rw [hcommand] at hdecode
      obtain ⟨l, rfl, hrange, rfl⟩ := (layoutCommand_eq_some_iff a b i).1 hcommand
      exact .accepted _ hdecode (fun hlisted => listed.1 hlisted ⟨hb, l, rfl, hj ▸ hrange⟩) (decide_eq_true hrange)
        (congrArg (0x34#8 ++ l.code ++ ·) ((operandB_layout_eq_iff l _ b).2 ⟨hzero, rfl⟩))
  · rw [if_neg hzero] at hdecode
    exact .refused .field hdecode (listed.2 fun ⟨hb, _⟩ => hzero ((high_bits_eq_zero_iff b 8 8 rfl).2 hb))

/-- Format by format of R61, AF, B16 and AC having one row each. -/
theorem verdict_append (op a : Byte) (b : BitVec 16) : Verdict (op ++ a ++ b) := by
  obtain h | ⟨i, hi, rfl⟩ | ⟨f, hf, rfl⟩ | rfl | rfl | rfl | rfl := opcode_cases op
  · exact verdict_of_unlisted h a b
  · exact verdict_plain hi a b
  · exact verdict_byte hf 0 a b
  · refine verdict_of_test (decodeCW_field a b) ?_ fun hzero => ⟨rfl, ?_⟩
    · exact (illegalFields_field_iff _ _).trans (not_congr (high_bits_eq_zero_iff b 5 11 rfl).symm)
    · exact congrArg (0x31#8 ++ a ++ ·) ((operandB_field_eq_iff a _ _ b).2 ⟨hzero, rfl, rfl⟩)
  · refine verdict_of_test (decodeCW_sign a b) ?_ fun hzero => ⟨rfl, ?_⟩
    · exact (illegalFields_sign_iff _ _).trans (not_congr (toNat_eq_zero_iff a))
    · rw [hzero]
      rfl
  · refine verdict_of_test (decodeCW_bal a b) ?_ fun hzero => ⟨rfl, ?_⟩
    · exact (illegalFields_bal_iff _ _).trans (not_congr (high_bits_eq_zero_iff b 2 14 rfl).symm)
    · exact congrArg (0x33#8 ++ a ++ ·) ((operandB_bal_eq_iff a _ b).2 ⟨hzero, rfl⟩)
  · exact verdict_layout a b

theorem verdict (cw : CommandWord) : Verdict cw := by
  rw [word_eq_fields cw]
  exact verdict_append _ _ _

/-- Settles O2: an accepted word is the encoding of the command that the decoder gives. -/
theorem encodeOfDecodeIsTheWord : Obligations.EncodeOfDecodeIsTheWord := by
  intro cw i h
  cases verdict cw with
  | refused why decodes => simp [h] at decodes
  | accepted j decodes _ wf encodes =>
    obtain rfl : j = i := Except.ok.inj (decodes.symm.trans h)
    exact ⟨wf, encodes⟩

/-- A step on a word that does not decode has R201's effect alone, whichever of R66's cases it is in. -/
theorem refusedAsIllegal_of_decode_error {cw : CommandWord} {why : Illegal} (h : decodeCW cw = .error why) :
    RefusedAsIllegal cw := fun _ _ hport => step_of_decode_error hport h

/-- Settles O3: the decoder refuses just the words that R66 lists, and a step refuses them in every state. -/
theorem exactlyTheListedWordsAreIllegal : Obligations.ExactlyTheListedWordsAreIllegal := by
  intro cw
  cases verdict cw with
  | refused why decodes listed =>
    exact ⟨fun _ => refusedAsIllegal_of_decode_error decodes, fun notListed => absurd listed notListed⟩
  | accepted i decodes notListed wf => exact ⟨fun listed => absurd listed notListed, fun _ => ⟨i, decodes, wf⟩⟩

end Sys2Proof.Laws
end

section
/-!
SUPPORT. The checksum function of 41_crc.md section 1. A turn of R101's loop keeps all of the register: with R103's turn it makes
a mirror image, it loses no bit, and while the lowest bit is zero it only shifts. The laws of R103, R105 and R106 come of these.
-/

namespace Sys2Proof.Machine

theorem repeat_eq_iterate {α : Type} (f : α → α) (n : Nat) (a : α) : Nat.repeat f n a = f^[n] a := by
  induction n with
  | zero => rfl
  | succ n ih => rw [Function.iterate_succ_apply', ← ih]; rfl

/-! ### The mirror image (R103) -/

theorem reverse_xor {w : Nat} (x y : BitVec w) : (x ^^^ y).reverse = x.reverse ^^^ y.reverse := by
  ext i hi
  simp [BitVec.getElem_reverse]

theorem reverse_ushiftRight {w : Nat} (x : BitVec w) (n : Nat) : (x >>> n).reverse = x.reverse <<< n := by
  ext i hi
  by_cases hn : i < n
  · simp [BitVec.getElem_reverse, BitVec.getMsbD_ushiftRight, hn]
  · simp [BitVec.getElem_reverse, BitVec.getMsbD_ushiftRight, hn, hi]

/-- A byte is folded in at the low end of one register and at the high end of its mirror image. -/
theorem reverse_setWidth_byte (b : Byte) : (b.setWidth 16).reverse = b.reverse.setWidth 16 <<< 8 := by
  apply BitVec.eq_of_getLsbD_eq
  intro i hi
  by_cases h8 : i < 8
  · have hbeyond : b.getLsbD (15 - i) = false := BitVec.getLsbD_of_ge b _ (by omega)
    simp [BitVec.getLsbD_reverse, BitVec.getMsbD_eq_getLsbD, h8, hbeyond]
  · have hlt : i - 8 < 8 := by omega
    have hmirror : 15 - i = 7 - (i - 8) := by omega
    have hbound : 7 - (i - 8) < 16 := by omega
    simp [BitVec.getElem_reverse, BitVec.getMsbD_eq_getLsbD, h8, hi, hlt, hmirror, hbound]

theorem reverse_crcShift (c : Word) : (crcShift c).reverse = crcShiftMsb c.reverse := by
  have hbit : c.reverse.getLsbD 15 = c.getLsbD 0 := BitVec.getLsbD_reverse
  have hpoly : (0xA001#16).reverse = 0x8005#16 := by decide
  unfold crcShift crcShiftMsb
  rw [hbit, apply_ite BitVec.reverse, reverse_xor, reverse_ushiftRight, hpoly]

theorem reverse_crcUpdate (c : Word) (b : Byte) : (crcUpdate c b).reverse = crcUpdateMsb c.reverse b := by
  have hturns := (Function.Semiconj.iterate_right reverse_crcShift 8).eq (c ^^^ b.setWidth 16)
  rw [reverse_xor, reverse_setWidth_byte] at hturns
  rwa [crcUpdate, crcUpdateMsb, repeat_eq_iterate, repeat_eq_iterate]

theorem reverse_foldl_crcUpdate (s : List Byte) (c : Word) :
    (s.foldl crcUpdate c).reverse = s.foldl crcUpdateMsb c.reverse := by
  induction s generalizing c with
  | nil => rfl
  | cons b s ih => rw [List.foldl_cons, List.foldl_cons, ih, reverse_crcUpdate]

/-- Settles O17: the two registers are mirror images after every byte, and at the start, all bits being set. -/
theorem reflectedCrcEqualsMsbFirstCrc : Obligations.ReflectedCrcEqualsMsbFirstCrc := by
  intro s
  have hstart : (0xFFFF#16).reverse = 0xFFFF#16 := by decide
  have hmirror := reverse_foldl_crcUpdate s 0xFFFF#16
  rw [hstart] at hmirror
  rw [crc16, crc16Msb, ← hmirror, BitVec.reverse_reverse_eq]

/-! ### Composition and residue (R105) -/

/-- While zeros come out at the low end the register is only shifted. -/
theorem iterate_crcShift_of_low_zero {c : Word} {n : Nat} (hzero : ∀ i, i < n → c.getLsbD i = false) :
    crcShift^[n] c = c >>> n := by
  induction n with
  | zero => simp
  | succ n ih =>
    have hbit : (c >>> n).getLsbD 0 = false := by simpa using hzero n (Nat.lt_succ_self n)
    rw [Function.iterate_succ_apply', ih fun i hi => hzero i (Nat.lt_succ_of_lt hi), crcShift, hbit, if_neg (by simp),
      ← BitVec.shiftRight_add]

/-- Folding in the register's own low byte brings its high byte down. -/
theorem crcUpdate_lowByte (c : Word) : crcUpdate c (lowByte c) = (highByte c).setWidth 16 := by
  rw [crcUpdate, repeat_eq_iterate, iterate_crcShift_of_low_zero]
  · apply BitVec.eq_of_getLsbD_eq
    intro i hi
    by_cases h8 : i < 8
    · simp [highByte, lowByte, hi, h8]
    · have hbeyond : c.getLsbD (8 + i) = false := BitVec.getLsbD_of_ge c _ (by omega)
      simp [lowByte, highByte, h8, hbeyond]
  · intro i hi
    simp [lowByte, hi, show i < 16 by omega]

theorem crcUpdate_setWidth_self (b : Byte) : crcUpdate (b.setWidth 16) b = 0 := by
  rw [crcUpdate, BitVec.xor_self]
  decide

/-- Any register is brought to 0 by its own two bytes, low byte first. -/
theorem foldl_crcUpdate_own_bytes (c : Word) : [lowByte c, highByte c].foldl crcUpdate c = 0 := by
  rw [List.foldl_cons, crcUpdate_lowByte]
  exact crcUpdate_setWidth_self (highByte c)

theorem crc16_append (s t : List Byte) : crc16 (s ++ t) = t.foldl crcUpdate (crc16 s) := List.foldl_append

/-- Settles O18: law 1 is that of a fold, and with it law 2 is about the two bytes of one register. -/
theorem crcComposesAndLeavesNoResidue : Obligations.CrcComposesAndLeavesNoResidue :=
  ⟨crc16_append, fun s => (crc16_append s _).trans (foldl_crcUpdate_own_bytes (crc16 s))⟩

/-! ### Error detection (R106) -/

/-- The highest bit after a turn is the lowest one before it, because the constant's highest bit is set. -/
theorem crcShift_getLsbD_15 (c : Word) : (crcShift c).getLsbD 15 = c.getLsbD 0 := by
  unfold crcShift
  split
  next hbit => simp [hbit]
  next hbit => simpa using hbit

/-- The highest bit tells which branch the turn took, and either branch can be undone. -/
theorem crcShift_injective : Function.Injective crcShift := by
  intro c d h
  have hbit : c.getLsbD 0 = d.getLsbD 0 := by rw [← crcShift_getLsbD_15 c, ← crcShift_getLsbD_15 d, h]
  have hshift : c >>> 1 = d >>> 1 := by
    unfold crcShift at h
    rw [hbit] at h
    split at h
    · exact (BitVec.xor_left_inj _).1 h
    · exact h
  apply BitVec.eq_of_getLsbD_eq
  intro i _
  cases i with
  | zero => exact hbit
  | succ i => simpa [Nat.add_comm] using congrArg (fun z => z.getLsbD i) hshift

theorem crcUpdate_eq_iff (c d : Word) (a b : Byte) :
    crcUpdate c a = crcUpdate d b ↔ c ^^^ a.setWidth 16 = d ^^^ b.setWidth 16 := by
  rw [crcUpdate, crcUpdate, repeat_eq_iterate, repeat_eq_iterate]
  exact (crcShift_injective.iterate 8).eq_iff

theorem crcUpdate_left_inj {c d : Word} (b : Byte) : crcUpdate c b = crcUpdate d b ↔ c = d :=
  (crcUpdate_eq_iff c d b b).trans (BitVec.xor_left_inj _)

theorem crcUpdate_right_inj (c : Word) {a b : Byte} : crcUpdate c a = crcUpdate c b ↔ a = b := by
  rw [crcUpdate_eq_iff, BitVec.xor_right_inj]
  constructor
  · intro h
    simpa using congrArg (BitVec.setWidth 8) h
  · exact congrArg _

/-- Different registers stay different under the same bytes. -/
theorem foldl_crcUpdate_inj (s : List Byte) {c d : Word} : s.foldl crcUpdate c = s.foldl crcUpdate d ↔ c = d := by
  induction s generalizing c d with
  | nil => rfl
  | cons b s ih => exact ih.trans (crcUpdate_left_inj b)

/-- Changing one byte changes the register, and the bytes behind it cannot undo that. -/
theorem foldl_crcUpdate_set_ne {s : List Byte} {k : Nat} (hk : k < s.length) {b : Byte} (hb : b ≠ s[k]) (c : Word) :
    (s.set k b).foldl crcUpdate c ≠ s.foldl crcUpdate c := by
  induction s generalizing k c with
  | nil => exact absurd hk (Nat.not_lt_zero k)
  | cons a s ih =>
    cases k with
    | zero => exact fun h => hb ((crcUpdate_right_inj c).1 ((foldl_crcUpdate_inj s).1 h))
    | succ k => exact ih (Nat.lt_of_succ_lt_succ hk) hb (crcUpdate c a)

/-- Two bytes bring a register to 0 just when they are its own, low byte first. -/
theorem foldl_crcUpdate_two_eq_zero_iff (c : Word) (lo hi : Byte) :
    [lo, hi].foldl crcUpdate c = 0 ↔ c = hi ++ lo := by
  have hlow : lowByte (hi ++ lo) = lo := BitVec.extractLsb'_append_eq_right
  have hhigh : highByte (hi ++ lo) = hi := BitVec.extractLsb'_append_eq_left
  have hown := foldl_crcUpdate_own_bytes (hi ++ lo)
  rw [hlow, hhigh] at hown
  rw [← hown]
  exact foldl_crcUpdate_inj [lo, hi]

/-- The bytes that the checksum covers, and the checksum's two bytes behind them. -/
theorem take_eq_covered_append_checksum {f : List Byte} (hlen : 4 ≤ f.length) :
    f.take (f.length - 2) = f.take (f.length - 4) ++ [byteAt f (f.length - 4), byteAt f (f.length - 3)] := by
  have h4 : f.length - 4 < f.length := by omega
  have h3 : f.length - 4 + 1 < f.length := by omega
  have htake : f.take (f.length - 4 + 1 + 1) = f.take (f.length - 4) ++ [f[f.length - 4], f[f.length - 4 + 1]] := by
    rw [List.take_succ_eq_append_getElem h3, List.take_succ_eq_append_getElem h4, List.append_assoc]
    rfl
  rw [byteAt, byteAt, List.getD_eq_getElem _ _ h4, show f.length - 3 = f.length - 4 + 1 by omega,
    List.getD_eq_getElem _ _ h3, show f.length - 2 = f.length - 4 + 1 + 1 by omega, htake]

/-- A frame's checksum is right just when everything but the terminator has residue 0 (R105 law 2, both ways). -/
theorem checksumOk_iff_residue {f : List Byte} (hlen : 4 ≤ f.length) :
    checksumOk f = true ↔ crc16 (f.take (f.length - 2)) = 0 := by
  rw [take_eq_covered_append_checksum hlen, crc16_append, foldl_crcUpdate_two_eq_zero_iff, checksumOk, beq_iff_eq]

/-- One changed byte before the terminator makes a right checksum wrong. -/
theorem checksumOk_set_eq_false {f : List Byte} {k : Nat} (hlen : 4 ≤ f.length) (hk : k < f.length - 2) {b : Byte}
    (hb : b ≠ f[k]) (hok : checksumOk f = true) : checksumOk (f.set k b) = false := by
  rw [checksumOk_iff_residue hlen] at hok
  rw [← Bool.not_eq_true, checksumOk_iff_residue (by rwa [List.length_set]), List.length_set, List.take_set, ← hok]
  exact foldl_crcUpdate_set_ne (by rw [List.length_take]; omega) (by rwa [List.getElem_take]) 0xFFFF#16

theorem flipped_byte_ne (b : Byte) {i : Nat} (hi : i < 8) : b ^^^ (1#8 <<< i) ≠ b := by
  intro h
  simpa [hi] using congrArg (fun z => z.getLsbD i) h

theorem checksumOk_flipBit_eq_false {f : List Byte} {n : Nat} (hlen : 4 ≤ f.length) (hn : n < 8 * (f.length - 2))
    (hok : checksumOk f = true) : checksumOk (Claims.flipBit f n) = false := by
  have hk : n / 8 < f.length - 2 := by omega
  have hget : f.getD (n / 8) 0 = f[n / 8] := List.getD_eq_getElem ..
  rw [Claims.flipBit, hget]
  exact checksumOk_set_eq_false hlen hk (flipped_byte_ne _ (Nat.mod_lt n (by decide))) hok

/-- RX_CHECK sets VALID just when `decode` accepts (42_frame.md R132). -/
theorem afterCheck_valid (s : State) :
    (afterCheck s).valid = (decodeFrame s.params.termCheck s.rxb s.explen.val).isSome := by
  unfold afterCheck
  cases decodeFrame s.params.termCheck s.rxb s.explen.val <;> rfl

/-- What VALID after RX_CHECK says of the received bytes (42_frame.md R123). -/
theorem long_and_checksumOk_of_rxCheck_valid {s t : State} (hexec : exec .rxCheck s = .next t) (hvalid : t.valid = true) :
    7 ≤ s.rxb.length ∧ checksumOk s.rxb = true := by
  rw [exec_rxCheck, respond_eq_next_iff] at hexec
  subst hexec
  obtain ⟨ws, accepts⟩ := Option.isSome_iff_exists.1 ((afterCheck_valid s).symm.trans hvalid)
  obtain ⟨-, hlong, -, hok, -⟩ := (decodeFrame_eq_some_iff _ _ _ _).1 accepts
  exact ⟨hlong, hok⟩

/-- Settles O19: the flipped bit is in a byte of the residue, and RX_CHECK leaves VALID set only by a right checksum. -/
theorem singleBitErrorsAreDetected : Obligations.SingleBitErrorsAreDetected := by
  refine ⟨fun f n => checksumOk_flipBit_eq_false, fun s t u n haccept hvalid hn hexec => ?_⟩
  obtain ⟨hlong, hok⟩ := long_and_checksumOk_of_rxCheck_valid haccept hvalid
  have hwrong := checksumOk_flipBit_eq_false (by omega) hn hok
  by_contra hu
  obtain ⟨-, hright⟩ := long_and_checksumOk_of_rxCheck_valid hexec (Bool.eq_true_of_not_eq_false hu)
  exact Bool.false_ne_true (hwrong.symm.trans hright)

end Sys2Proof.Machine
end

section
/-!
SUPPORT. The CRC commands (41_crc.md section 2), one by one and beside the frame commands (R110).
-/

namespace Sys2Proof.Laws

open Sys2Proof.Machine Sys2Proof.Claims Sys2Proof.Laws.EncodeFields

/-- Format N: any operand is refused (30_encoding.md R61, R66). -/
theorem noOperands_of_plain {i : Instr} (hi : i ∈ plainCommands) : NoOperands i.opcode := fun a b hab =>
  refusedAsIllegal_of_decode_error ((decodeCW_plain hi a b).trans (if_neg (not_and_or.2 hab)))

/-- Format A8: any B but 0 is refused (R61, R66). -/
theorem onlyOperandA_of_byte {f : Byte → Instr} (hf : f ∈ byteCommands) (x : Byte) : OnlyOperandA (f x).opcode :=
  fun a b hb => refusedAsIllegal_of_decode_error ((decodeCW_byte hf x a b).trans (if_neg hb))

/-- The word of format A8 as the rules of the commands write it: the operand shifted into A. -/
theorem append_eq_or_shiftLeft (op a : Byte) :
    (op ++ a ++ 0#16 : CommandWord) = (op ++ 0#8 ++ 0#16 : CommandWord) ||| (a.setWidth 32 <<< 16) := by
  apply BitVec.eq_of_getLsbD_eq
  intro n hn
  rw [BitVec.getLsbD_or, getLsbD_append, getLsbD_append]
  by_cases h16 : n < 16
  · simp [h16]
  · by_cases h24 : n - 16 < 8
    · simp [h16, h24, hn]
    · have hbeyond : a.getLsbD (n - 16) = false := BitVec.getLsbD_of_ge a _ (by omega)
      simp [h16, h24, hbeyond]

end Sys2Proof.Laws

namespace Sys2Proof.Machine

open Sys2Proof.Laws

/-- CRC_INIT sets CRC and answers it (R107). -/
theorem exec_crcInit (s : State) :
    exec .crcInit s = .next { s with crc := 0xFFFF, response := some 0x0000FFFF } := rfl

/-- Settles O14: a good answer on the state with CRC = 0xFFFF, and format N. -/
theorem crcInitSetsTheInitialValue : Obligations.CrcInitSetsTheInitialValue :=
  ⟨rfl, exec_crcInit, noOperands_of_plain (i := .crcInit) (by decide)⟩

/-- Settles O15: the operand byte is A, the one field of the word that may be nonzero, and `exec` folds it. -/
theorem crcByteFoldsOneByte : Obligations.CrcByteFoldsOneByte :=
  ⟨append_eq_or_shiftLeft 0x02, exec_crcByte, onlyOperandA_of_byte (f := .crcByte) (by simp [byteCommands]) 0⟩

/-- Settles O16: a good answer on the state as it was, and format N. -/
theorem crcReadAnswersTheAccumulator : Obligations.CrcReadAnswersTheAccumulator :=
  ⟨rfl, exec_crcRead, noOperands_of_plain (i := .crcRead) (by decide)⟩

/-! ### CRC commands between frame commands (R110) -/

/-- A result with another value in CRC. -/
def withCrcLeft (c : Word) : Result → Result
  | .next s => .next { s with crc := c }
  | .fault f => .fault f
  | .refused why => .refused why

/-- A guard that does not read CRC lets it through if both its branches do. -/
theorem ite_ignores_crc {p : Prop} [Decidable p] {c : Word} {r₁ r₁' r₂ r₂' : Result}
    (h₁ : r₁' = withCrcLeft c r₁) (h₂ : r₂' = withCrcLeft c r₂) :
    (if p then r₁' else r₂') = withCrcLeft c (if p then r₁ else r₂) := by
  rw [h₁, h₂, apply_ite (withCrcLeft c)]

theorem readByte_ignores_crc (byte : Option Byte) (s : State) (c : Word) :
    (byte.elim (raise .index { s with crc := c }) fun b => respond (b.setWidth 24) { s with crc := c }) =
      withCrcLeft c (byte.elim (raise .index s) fun b => respond (b.setWidth 24) s) := by
  cases byte <;> rfl

theorem execRxCheck_ignores_crc (s : State) (c : Word) :
    execRxCheck { s with crc := c } = withCrcLeft c (execRxCheck s) := by
  unfold execRxCheck
  dsimp only
  cases decodeFrame s.params.termCheck s.rxb s.explen.val <;> rfl

/-- A frame command neither reads nor writes CRC. -/
theorem exec_frame_ignores_crc {f : Instr} (hf : isFrameCommand f = true) (s : State) (c : Word) :
    exec f { s with crc := c } = withCrcLeft c (exec f s) := by
  cases f with
  | txBegin | txLen | rxBegin | rxLen => rfl
  | txByte | rxByte => exact ite_ignores_crc rfl (ite_ignores_crc rfl rfl)
  | txEnd => exact ite_ignores_crc rfl rfl
  | txRead i =>
    simp only [exec, execTxRead_eq_elim]
    exact readByte_ignores_crc (readTxb s i.toNat) s c
  | rxRead i =>
    simp only [exec, execRxRead_eq_elim]
    exact readByte_ignores_crc (readRxb s i.toNat) s c
  | rxCheck => exact execRxCheck_ignores_crc s c
  | nop | crcInit | crcByte | crcRead | word | field | sign | bal | layout | plen | status | srst => cases hf

/-- No command looks at the port, so it leaves there what it finds. -/
theorem exec_keeps_commands {i : Instr} {s t : State} (h : exec i s = .next t) : t.commands = s.commands := by
  have hport : exec i s = withCommandsLeft s.commands (exec i s) := exec_ignores_port i s s.commands s.response
  rw [h, withCommandsLeft, Host.Outcome.next.injEq] at hport
  rw [hport]

theorem exec_frame_keeps_crc {f : Instr} (hf : isFrameCommand f = true) {s t : State} (h : exec f s = .next t) :
    t.crc = s.crc := by
  have hcrc : exec f s = withCrcLeft s.crc (exec f s) := exec_frame_ignores_crc hf s s.crc
  rw [h, withCrcLeft, Host.Outcome.next.injEq] at hcrc
  rw [hcrc]

/-- What a command does does not depend on the response before it. -/
theorem exec_with_response {i : Instr} {s t : State} (h : exec i s = .next t) (last : Option ResponseWord) :
    exec i { s with response := last } = .next t := by
  have hport : exec i { s with response := last } = withCommandsLeft s.commands (exec i s) :=
    exec_ignores_port i s s.commands last
  rw [hport, h, withCommandsLeft, ← exec_keeps_commands h]

/-- A CRC command's new CRC and its answer are both a function of CRC alone. -/
theorem exec_crc_command {c : Instr} (hc : isCrcCommand c = true) :
    ∃ g : Word → Word, ∀ s : State, exec c s = respond (raw16 (g s.crc)) { s with crc := g s.crc } := by
  cases c with
  | crcInit => exact ⟨fun _ => 0xFFFF, fun _ => rfl⟩
  | crcByte b => exact ⟨fun c => crcUpdate c b, fun _ => rfl⟩
  | crcRead => exact ⟨id, fun _ => rfl⟩
  | nop | txBegin | txByte | txEnd | txRead | txLen | rxBegin | rxByte | rxCheck | rxRead | rxLen | word | field | sign | bal
  | layout | plen | status | srst => cases hc

/-- Settles O21: the frame command does not see what the CRC command writes, nor the CRC command what the frame command does. -/
theorem crcAndFrameCommandsDoNotInterfere : Obligations.CrcAndFrameCommandsDoNotInterfere := by
  intro c f s hc hf
  obtain ⟨g, hg⟩ := exec_crc_command hc
  obtain ⟨t, ht⟩ := exec_completes f s
  have hframe : exec f { s with crc := g s.crc, response := some (responseWord .ok (raw16 (g s.crc))) } =
      .next { t with crc := g s.crc } := by
    refine (exec_frame_ignores_crc hf { s with response := some (responseWord .ok (raw16 (g s.crc))) } _).trans ?_
    rw [exec_with_response ht]
    rfl
  refine ⟨_, _, t, _, hg s, hframe, ht, hg t, ?_⟩
  rw [exec_frame_keeps_crc hf ht]
  exact ⟨rfl, rfl, rfl⟩

end Sys2Proof.Machine
end

section
/-!
SUPPORT. The response words of the frame commands, and each frame command's outcomes as equations of `exec` (42_frame.md sections
2 and 3).
-/

namespace Sys2Proof.Machine

open Sys2Proof.Claims

/-! ### Response words -/

/-- OK with a value of at most 24 bits is that value zero-extended (30_encoding.md R63, R64). -/
theorem responseWord_ok_setWidth {w : Nat} (hw : w ≤ 24) (v : BitVec w) :
    responseWord .ok (v.setWidth 24) = v.setWidth 32 := by
  apply BitVec.eq_of_getLsbD_eq
  intro n hn
  have hhigh : v.getLsbD n = true → n < 24 := fun hbit => (BitVec.lt_of_getLsbD hbit).trans_le hw
  rw [getLsbD_responseWord]
  simpa [Status.code, hn] using hhigh

/-- OK with a count, in the low byte (R64). -/
theorem responseWord_ok_raw8 (n : Nat) : responseWord .ok (raw8 n) = 0#24 ++ BitVec.ofNat 8 n :=
  (responseWord_ok_setWidth (by decide) _).trans (BitVec.setWidth_eq_append (by decide))

/-- OK with a count that fits its byte is the count. -/
theorem responseWord_ok_raw8_of_lt {n : Nat} (hn : n < 256) : responseWord .ok (raw8 n) = BitVec.ofNat 32 n := by
  rw [raw8, responseWord_ok_setWidth (by decide)]
  apply BitVec.eq_of_toNat_eq
  simp only [BitVec.toNat_setWidth, BitVec.toNat_ofNat]
  omega

/-- A field put above three others. -/
theorem append_append_append {l m n k : Nat} (w : BitVec l) (x : BitVec m) (y : BitVec n) (z : BitVec k) :
    w ++ (x ++ y ++ z) = (w ++ x ++ y ++ z).cast (by omega) := by
  rw [BitVec.append_assoc', BitVec.append_assoc', ← BitVec.cast_append_left (by omega), BitVec.cast_cast]

/-- OK with two counts, in the two low bytes. -/
theorem responseWord_ok_counts (m n : Nat) :
    responseWord .ok (0#8 ++ BitVec.ofNat 8 m ++ BitVec.ofNat 8 n) = 0#16 ++ BitVec.ofNat 8 m ++ BitVec.ofNat 8 n :=
  append_append_append 0#8 0#8 _ _

/-! ### Transmit commands -/

theorem exec_txByte_of_room {b : Byte} {s : State} (opened : s.txst = .opened) (room : s.txb.length + 4 < s.params.txCap) :
    exec (.txByte b) s =
      .next { s with txb := s.txb ++ [b], response := some (0#24 ++ BitVec.ofNat 8 (s.txb.length + 1)) } := by
  have hroom : ¬ s.txlen ≥ s.params.txCap - 4 := by rw [State.txlen]; omega
  calc exec (.txByte b) s
    _ = respond (raw8 (s.txlen + 1)) (appendTxb [b] s) := (if_neg (not_not.2 opened)).trans (if_neg hroom)
    _ = _ := by rw [respond, responseWord_ok_raw8]; rfl

theorem txByte_raises_seq {b : Byte} {s : State} (notOpened : s.txst ≠ .opened) : Raises (.txByte b) s .seq :=
  if_pos notOpened

theorem txByte_raises_full {b : Byte} {s : State} (opened : s.txst = .opened) (noRoom : s.params.txCap ≤ s.txb.length + 4) :
    Raises (.txByte b) s .full := by
  have hfull : s.txlen ≥ s.params.txCap - 4 := by rw [State.txlen]; omega
  exact (if_neg (not_not.2 opened)).trans (if_pos hfull)

theorem exec_txEnd_of_opened {s : State} (opened : s.txst = .opened) :
    exec .txEnd s = .next { s with
      txb := withTrailer s.txb, txst := .done,
      response := some (0#8 ++ BitVec.ofNat 8 (s.txb.length + 4) ++ crc16 s.txb) } := by
  have hword : responseWord .ok (BitVec.ofNat 8 (s.txb.length + 4) ++ crc16 s.txb) =
      0#8 ++ BitVec.ofNat 8 (s.txb.length + 4) ++ crc16 s.txb := BitVec.append_assoc'
  rw [← hword]
  exact if_neg (not_not.2 opened)

theorem txEnd_raises_seq {s : State} (notOpened : s.txst ≠ .opened) : Raises .txEnd s .seq := if_pos notOpened

/-- The answer of TX_READ and RX_READ: the byte where there is one (R128, R133). -/
theorem readByte_of_eq_some {byte : Option Byte} {b : Byte} (h : byte = some b) (s : State) :
    (byte.elim (raise .index s) fun b => respond (b.setWidth 24) s) =
      .next { s with response := some (b.setWidth 32) } := by
  rw [h, ← responseWord_ok_setWidth (by decide) b]
  rfl

theorem readByte_of_eq_none {byte : Option Byte} (h : byte = none) (s : State) :
    (byte.elim (raise .index s) fun b => respond (b.setWidth 24) s) = raise .index s := by
  rw [h]
  rfl

theorem exec_txRead_of_eq_some {i b : Byte} {s : State} (h : s.txb[i.toNat]? = some b) :
    exec (.txRead i) s = .next { s with response := some (b.setWidth 32) } :=
  (execTxRead_eq_elim i s).trans (readByte_of_eq_some h s)

theorem txRead_raises_index {i : Byte} {s : State} (h : s.txb.length ≤ i.toNat) : Raises (.txRead i) s .index :=
  (execTxRead_eq_elim i s).trans (readByte_of_eq_none (List.getElem?_eq_none h) s)

/-! ### Receive commands -/

/-- RX_BEGIN empties the receiver, and leaves PW (R130). -/
theorem exec_rxBegin (e : Byte) (s : State) :
    exec (.rxBegin e) s = .next { s with
      rxb := [], explen := ⟨e.toNat, e.isLt⟩, rxst := .opened, valid := false, pcount := 0,
      response := some (e.setWidth 32) } := by
  have hword : responseWord .ok (raw8 e.toNat) = e.setWidth 32 := by
    rw [raw8, responseWord_ok_setWidth (by decide), BitVec.ofNat_toNat, BitVec.setWidth_eq]
  rw [← hword]
  rfl

theorem exec_rxByte_of_room {b : Byte} {s : State} (opened : s.rxst = .opened) (room : s.rxb.length < s.explen.val) :
    exec (.rxByte b) s = .next { s with rxb := s.rxb ++ [b], response := some (BitVec.ofNat 32 (s.rxb.length + 1)) } := by
  have hbyte : s.rxb.length + 1 < 256 := by have := s.explen.isLt; omega
  rw [← responseWord_ok_raw8_of_lt hbyte]
  exact (if_neg (not_not.2 opened)).trans (if_neg (not_le.2 room))

theorem rxByte_raises_seq {b : Byte} {s : State} (notOpened : s.rxst ≠ .opened) : Raises (.rxByte b) s .seq :=
  if_pos notOpened

theorem rxByte_raises_full {b : Byte} {s : State} (opened : s.rxst = .opened) (full : s.explen.val ≤ s.rxb.length) :
    Raises (.rxByte b) s .full := (if_neg (not_not.2 opened)).trans (if_pos full)

theorem exec_rxRead_of_eq_some {i b : Byte} {s : State} (h : s.rxb[i.toNat]? = some b) :
    exec (.rxRead i) s = .next { s with response := some (b.setWidth 32) } :=
  (execRxRead_eq_elim i s).trans (readByte_of_eq_some h s)

theorem rxRead_raises_index {i : Byte} {s : State} (h : s.rxb.length ≤ i.toNat) : Raises (.rxRead i) s .index :=
  (execRxRead_eq_elim i s).trans (readByte_of_eq_none (List.getElem?_eq_none h) s)

end Sys2Proof.Machine
end

section
/-!
SUPPORT. The pure functions of the frame codec: what a trailer does to `decode`'s tests, where the words of a frame stand, and
which bytes `decode` looks at (42_frame.md section 1).
-/

namespace Sys2Proof.Machine

open Sys2Proof.Laws

/-! ### The trailer -/

@[simp] theorem withTrailer_length (p : List Byte) : (withTrailer p).length = p.length + 4 := by
  simp [withTrailer, trailer]

/-- The residue of a finished frame is 0 (41_crc.md R105 law 2). -/
theorem checksumOk_withTrailer (p : List Byte) : checksumOk (withTrailer p) = true := by
  have htake : (withTrailer p).take ((withTrailer p).length - 2) = p ++ [lowByte (crc16 p), highByte (crc16 p)] := by
    rw [withTrailer_length, withTrailer, Nat.add_sub_assoc (by decide), List.take_length_add_append]
    rfl
  rw [checksumOk_iff_residue (by simp), htake, crc16_append]
  exact foldl_crcUpdate_own_bytes (crc16 p)

/-- What the terminator test asks (42_frame.md R123). -/
theorem terminatorOk_iff (tc : Bool) (f : List Byte) :
    terminatorOk tc f = true ↔ (tc = true → byteAt f (f.length - 2) = 0x0D ∧ byteAt f (f.length - 1) = 0x0A) := by
  cases tc <;> simp [terminatorOk]

theorem terminatorOk_withTrailer (tc : Bool) (p : List Byte) : terminatorOk tc (withTrailer p) = true := by
  rw [terminatorOk_iff]
  intro _
  simp [withTrailer, trailer, byteAt]

/-! ### The words of a frame (20_memory.md R43) -/

theorem highByte_append_lowByte (w : Word) : highByte w ++ lowByte w = w :=
  (append_eq_iff (highByte w) (lowByte w) w).2 ⟨rfl, rfl⟩

theorem byteAt_append_right (p f : List Byte) (k : Nat) : byteAt (p ++ f) (p.length + k) = byteAt f k := by
  rw [byteAt, byteAt, List.getD_eq_getElem?_getD, List.getD_eq_getElem?_getD,
    List.getElem?_append_right (Nat.le_add_right ..), Nat.add_sub_cancel_left]

theorem bigEndianAt_append_right (p f : List Byte) (k : Nat) : bigEndianAt (p ++ f) (p.length + k) = bigEndianAt f k := by
  rw [bigEndianAt, Nat.add_assoc, byteAt_append_right, byteAt_append_right, bigEndianAt]

/-- Words written high byte first are read back at every second byte. -/
theorem bigEndianAt_flatMap_wordBytes {ws : List Word} {i : Nat} (hi : i < ws.length) (f : List Byte) :
    bigEndianAt (ws.flatMap wordBytes ++ f) (2 * i) = ws[i] := by
  induction ws generalizing i with
  | nil => exact absurd hi (Nat.not_lt_zero i)
  | cons w ws ih =>
    rw [List.flatMap_cons, List.append_assoc]
    cases i with
    | zero => exact highByte_append_lowByte w
    | succ i =>
      rw [Nat.mul_succ, Nat.add_comm]
      exact (bigEndianAt_append_right (wordBytes w) _ (2 * i)).trans (ih (Nat.lt_of_succ_lt_succ hi))

theorem length_flatMap_wordBytes (ws : List Word) : (ws.flatMap wordBytes).length = 2 * ws.length := by
  simp [wordBytes, List.length_flatMap, Nat.mul_comm]

/-- The payload of a response frame is the words it was built from (42_frame.md R122). -/
theorem payloadWords_responseFrame (a h0 h1 : Byte) (ws : List Word) :
    payloadWords (responseFrame a h0 h1 ws) ws.length = ws := by
  refine List.ext_getElem (payloadWords_length _ _) fun i _ hi => ?_
  have hword := bigEndianAt_flatMap_wordBytes hi (trailer (crc16 ([a, h0, h1] ++ ws.flatMap wordBytes)))
  rw [← bigEndianAt_append_right [a, h0, h1]] at hword
  simpa [payloadWords, responseFrame, withTrailer] using hword

/-- Settles O34: the trailer passes `decode`'s tests under either TERM_CHECK, and the words stand where they were written. -/
theorem responseFramesRoundTrip : Obligations.ResponseFramesRoundTrip := by
  intro tc a h0 h1 ws
  have hlen : (responseFrame a h0 h1 ws).length = 7 + 2 * ws.length := by
    rw [responseFrame, withTrailer_length, List.length_append, length_flatMap_wordBytes]
    simp
    omega
  have hcount : (7 + 2 * ws.length - 7) / 2 = ws.length := by omega
  refine ⟨(decodeFrame_eq_some_iff _ _ _ _).2 ⟨hlen, by omega, by omega, checksumOk_withTrailer _,
    terminatorOk_withTrailer tc _, ?_⟩, rfl⟩
  rw [hlen, hcount, payloadWords_responseFrame]

/-! ### The bytes `decode` looks at -/

theorem byteAt_eq_of_take_eq {f g : List Byte} {n k : Nat} (htake : g.take n = f.take n) (hk : k < n) :
    byteAt g k = byteAt f k := by
  have hget := congrArg (fun l => l[k]?) htake
  simp only [List.getElem?_take_of_lt hk] at hget
  rw [byteAt, byteAt, List.getD_eq_getElem?_getD, List.getD_eq_getElem?_getD, hget]

/-- With TERM_CHECK = false an accepted frame is accepted whatever its last two bytes are, with the same words: the checksum test
reads no further than the checksum, and every word ends before it. -/
theorem decodeFrame_false_of_take_eq {f g : List Byte} {e : Nat} {ws : List Word} (hlen : g.length = f.length)
    (htake : g.take (f.length - 2) = f.take (f.length - 2)) (h : decodeFrame false f e = some ws) :
    decodeFrame false g e = some ws := by
  obtain ⟨he, hlong, heven, hsum, -, rfl⟩ := (decodeFrame_eq_some_iff _ _ _ _).1 h
  have hwords : payloadWords f ((f.length - 7) / 2) = payloadWords g ((f.length - 7) / 2) := by
    refine List.map_congr_left fun i hi => ?_
    have hi := List.mem_range.1 hi
    rw [bigEndianAt, bigEndianAt, byteAt_eq_of_take_eq htake (by omega), byteAt_eq_of_take_eq htake (by omega)]
  rw [checksumOk_iff_residue (by omega), ← htake, ← hlen, ← checksumOk_iff_residue (by omega)] at hsum
  exact (decodeFrame_eq_some_iff _ _ _ _).2
    ⟨hlen.trans he, hlen ▸ hlong, hlen ▸ heven, hsum, rfl, by rw [hlen, hwords]⟩

theorem decodeFrame_false_congr {f g : List Byte} (e : Nat) (hlen : g.length = f.length)
    (htake : g.take (f.length - 2) = f.take (f.length - 2)) : decodeFrame false g e = decodeFrame false f e :=
  Option.ext fun _ =>
    ⟨decodeFrame_false_of_take_eq hlen.symm (hlen ▸ htake.symm), decodeFrame_false_of_take_eq hlen htake⟩

/-- With TERM_CHECK = true `decode` makes the terminator test besides (42_frame.md R123). -/
theorem decodeFrame_true_eq_some_iff (f : List Byte) (e : Nat) (ws : List Word) :
    decodeFrame true f e = some ws ↔
      decodeFrame false f e = some ws ∧ byteAt f (f.length - 2) = 0x0D ∧ byteAt f (f.length - 1) = 0x0A := by
  rw [decodeFrame_eq_some_iff, decodeFrame_eq_some_iff, terminatorOk_iff, terminatorOk_iff]
  simp only [Bool.false_eq_true, false_implies, true_implies]
  tauto

/-- Settles O35: the two bytes written are beyond those that `decode` looks at with TERM_CHECK = false, and with true the
terminator test is the one test more. -/
theorem terminatorIsExaminedOnlyOnRequest : Obligations.TerminatorIsExaminedOnlyOnRequest := by
  refine ⟨fun f e x y => decodeFrame_false_congr e (by simp) ?_, decodeFrame_true_eq_some_iff⟩
  rw [List.take_set_of_le (by omega), List.take_set_of_le (Nat.le_refl _)]

end Sys2Proof.Machine
end

section
/-!
SUPPORT. TX_FRAME as a sequence of steps, and the transmit commands one by one (42_frame.md section 2).
-/

namespace Sys2Proof.Machine

open Sys2Proof.Laws

/-- The bytes of TX_FRAME are appended to the open frame while the trailer still fits behind them, and TX_END appends it (R126,
R127). -/
theorem run_txBytes_txEnd (bs : List Byte) (s : State) (rest : List CommandWord) (opened : s.txst = .opened)
    (room : s.txb.length + bs.length + 4 ≤ s.params.txCap) :
    Sys2Proof.core.run (bs.length + 1)
        { s with commands := (bs.map Instr.txByte ++ [Instr.txEnd]).map encode ++ rest } =
      .next { s with
        txb := withTrailer (s.txb ++ bs), txst := .done, commands := rest,
        response := some (0#8 ++ BitVec.ofNat 8 ((s.txb ++ bs).length + 4) ++ crc16 (s.txb ++ bs)) } := by
  induction bs generalizing s with
  | nil =>
    rw [List.append_nil]
    exact run_succ_encode 0 rfl (exec_txEnd_of_opened (s := { s with commands := rest }) opened)
  | cons b bs ih =>
    rw [List.length_cons] at room
    have hfirst := fun tail => exec_txByte_of_room (b := b) (s := { s with commands := tail }) opened
      (show s.txb.length + 4 < s.params.txCap by omega)
    have hrest := ih
      { s with txb := s.txb ++ [b], response := some (0#24 ++ BitVec.ofNat 8 (s.txb.length + 1)) } opened
      (show (s.txb ++ [b]).length + bs.length + 4 ≤ s.params.txCap by simp; omega)
    have happend : s.txb ++ b :: bs = s.txb ++ [b] ++ bs := List.append_cons ..
    rw [happend]
    exact (run_succ_encode _ rfl (hfirst _)).trans hrest

/-- Settles O32: TX_BEGIN opens a frame that holds the address, whatever was there, and the body and the trailer follow. -/
theorem transmitCommandsPerformEncode : Obligations.TransmitCommandsPerformEncode := by
  intro a body s rest hroom
  refine ⟨withTrailer_length (a :: body), ?_⟩
  have hbody := run_txBytes_txEnd body
    { s with txb := [a], txst := .opened, response := some (responseWord .ok (raw8 1)) } rest rfl
    (show 1 + body.length + 4 ≤ s.params.txCap by omega)
  exact (run_succ_encode (i := .txBegin a) (body.length + 1) rfl rfl).trans hbody

/-- Settles O22: a good answer on the state with TXB and TXST set, and format A8. -/
theorem txBeginStartsAFrame : Obligations.TxBeginStartsAFrame :=
  ⟨append_eq_or_shiftLeft 0x10, fun _ _ => ⟨_, rfl, rfl, rfl⟩,
    onlyOperandA_of_byte (f := .txBegin) (by simp [byteCommands]) 0⟩

/-- Settles O23: the three ways through TX_BYTE's guards, and format A8. -/
theorem txByteAppendsABodyByte : Obligations.TxByteAppendsABodyByte :=
  ⟨append_eq_or_shiftLeft 0x11, fun _ _ => exec_txByte_of_room, fun _ _ => txByte_raises_seq, fun _ _ => txByte_raises_full,
    onlyOperandA_of_byte (f := .txByte) (by simp [byteCommands]) 0⟩

/-- Settles O24: the two ways through TX_END's guard, and format N. -/
theorem txEndAppendsTheTrailer : Obligations.TxEndAppendsTheTrailer :=
  ⟨rfl, fun _ => exec_txEnd_of_opened, fun _ => txEnd_raises_seq, noOperands_of_plain (i := .txEnd) (by decide)⟩

/-- Settles O25: a byte of TXB or none, and format A8. -/
theorem txReadAnswersOneByte : Obligations.TxReadAnswersOneByte :=
  ⟨append_eq_or_shiftLeft 0x13, fun _ _ _ => exec_txRead_of_eq_some, fun _ _ => txRead_raises_index,
    onlyOperandA_of_byte (f := .txRead) (by simp [byteCommands]) 0⟩

/-- Settles O26: a good answer on the state as it was, and format N. -/
theorem txLenAnswersTheLength : Obligations.TxLenAnswersTheLength := by
  refine ⟨rfl, fun s => ?_, noOperands_of_plain (i := .txLen) (by decide)⟩
  rw [← responseWord_ok_raw8]
  rfl

end Sys2Proof.Machine
end

section
/-!
SUPPORT. What RX_CHECK latches, RX_FRAME as a sequence of steps, and the receive commands one by one (42_frame.md section 3).
-/

namespace Sys2Proof.Machine

open Sys2Proof.Laws Sys2Proof.Claims

/-! ### RX_CHECK (R132) -/

/-- OK with the payload image (30_encoding.md R63; R132). -/
theorem responseWord_ok_payloadImage (valid : Bool) (n : Nat) :
    responseWord .ok (payloadImage valid n) = 0#8 ++ BitVec.ofBool valid ++ 0#15 ++ BitVec.ofNat 8 n :=
  append_append_append 0#8 (BitVec.ofBool valid) 0#15 _

/-- The words of PW beyond those latched stay. -/
theorem readPw_latchPayload_some_of_le {ws : List Word} (s : State) {i : Nat} (hi : ws.length ≤ i) :
    readPw (latchPayload (some ws) s) i = readPw s i := by
  by_cases h : i < 124
  · simp [readPw_of_lt _ i h, latchWords_getElem, hi]
  · simp [readPw, h]

/-- An accepted frame: its words fit PW, so all of them are latched. -/
theorem exec_rxCheck_of_accepts {s : State} {ws : List Word}
    (accepts : decodeFrame s.params.termCheck s.rxb s.explen.val = some ws) :
    ∃ (n : Fin 125) (p : Vector Word 124),
      exec .rxCheck s = .next { s with
        valid := true, pcount := n, pw := p, response := some (0#8 ++ 1#1 ++ 0#15 ++ BitVec.ofNat 8 n.val) } ∧
      n.val = ws.length ∧ (∀ (i : Nat) (hi : i < ws.length), readPw { s with pw := p } i = ws[i]) ∧
      ∀ i : Nat, ws.length ≤ i → readPw { s with pw := p } i = readPw s i := by
  obtain ⟨-, hmax⟩ := decodeFrame_length _ _ _ _ accepts
  have hafter : afterCheck s = latchPayload (some ws) s := by rw [afterCheck, accepts]
  refine ⟨(latchPayload (some ws) s).pcount, (latchPayload (some ws) s).pw, ?_, Nat.mod_eq_of_lt (by omega),
    fun i hi => readPw_latchPayload_some (by omega) hi, fun i hi => readPw_latchPayload_some_of_le s hi⟩
  rw [exec_rxCheck, hafter, respond, responseWord_ok_payloadImage]
  rfl

/-- A rejected frame is no error (R124). -/
theorem exec_rxCheck_of_rejects {s : State} (rejects : decodeFrame s.params.termCheck s.rxb s.explen.val = none) :
    exec .rxCheck s = .next { s with valid := false, pcount := 0, response := some 0 } := by
  have hafter : afterCheck s = { s with valid := false, pcount := 0 } := by rw [afterCheck, rejects]; rfl
  have hword : responseWord .ok (payloadImage false 0) = 0 := by decide
  rw [exec_rxCheck, hafter, ← hword]
  rfl

/-- R123's tests, clause by clause, are those of `decode` on the bytes held. -/
theorem acceptableFrame_iff (s : State) :
    AcceptableFrame s ↔ decodeFrame s.params.termCheck s.rxb s.explen.val =
      some (payloadWords s.rxb ((s.rxb.length - 7) / 2)) := by
  rw [decodeFrame_eq_some_iff, terminatorOk_iff, checksumOk, beq_iff_eq, eq_self_iff_true, and_true]
  rfl

theorem decodeFrame_eq_none_of_not_acceptable {s : State} (h : ¬ AcceptableFrame s) :
    decodeFrame s.params.termCheck s.rxb s.explen.val = none := by
  refine Option.eq_none_iff_forall_ne_some.2 fun ws hws => h ((acceptableFrame_iff s).2 ?_)
  obtain ⟨-, -, -, -, -, rfl⟩ := (decodeFrame_eq_some_iff _ _ _ _).1 hws
  exact hws

/-- Settles O29: the frames that R123 accepts are those that `decode` gives words of, and RX_CHECK latches just these words. -/
theorem rxCheckLatchesAcceptedFrames : Obligations.RxCheckLatchesAcceptedFrames := by
  refine ⟨rfl, fun s hs => ?_, fun s hs => exec_rxCheck_of_rejects (decodeFrame_eq_none_of_not_acceptable hs),
    noOperands_of_plain (i := .rxCheck) (by decide)⟩
  obtain ⟨n, p, hexec, hcount, hwords, hbeyond⟩ := exec_rxCheck_of_accepts ((acceptableFrame_iff s).1 hs)
  refine ⟨_, hexec, rfl, hcount.trans (payloadWords_length ..), fun i hi => ?_, fun i hi => hbeyond i (hcount ▸ hi)⟩
  have hi' := hcount ▸ hi
  exact (hwords i hi').trans (payloadWords_getElem _ _ i hi')

/-! ### RX_FRAME (R136) -/

/-- Only the first `n` bytes of what was kept of a sequence count among the first `n` of a longer one. -/
theorem take_take_append (xs ys : List Byte) (n : Nat) : (xs.take n ++ ys).take n = (xs ++ ys).take n := by
  rw [List.take_append, List.take_append, List.take_take, Nat.min_self, List.length_take]
  congr 2
  omega

/-- RX_BYTE in an open receiver: the byte is kept if it is among the first EXPLEN, and dropped with an error if not (R131). -/
theorem exec_rxByte_of_opened (b : Byte) {s : State} (opened : s.rxst = .opened) (bounded : s.rxb.length ≤ s.explen.val) :
    ∃ (st : Status) (seen : Bool) (rw : Option ResponseWord), exec (.rxByte b) s =
      .next { s with
        rxb := (s.rxb ++ [b]).take s.explen.val, lasterr := st, errseen := seen, response := rw } := by
  by_cases room : s.rxb.length < s.explen.val
  · refine ⟨s.lasterr, s.errseen, some (BitVec.ofNat 32 (s.rxb.length + 1)), ?_⟩
    rw [exec_rxByte_of_room opened room, List.take_of_length_le (by simpa using room)]
  · have full : s.explen.val = s.rxb.length := by omega
    refine ⟨.full, true, some (Status.full.code ++ 0#24), ?_⟩
    rw [rxByte_raises_full opened full.le, full, List.take_left]

/-- A run of one step performs the command whose word is the oldest on the port. -/
theorem run_one_encode {i : Instr} (s : State) (rest : List CommandWord) (wf : i.WellFormed) :
    Sys2Proof.core.run 1 { s with commands := encode i :: rest } = exec i { s with commands := rest } := by
  obtain ⟨t, ht⟩ := exec_completes i { s with commands := rest }
  exact (run_succ_encode 0 wf ht).trans ht.symm

/-- The bytes of RX_FRAME fill RXB up to EXPLEN, and RX_CHECK is performed on them; the error state is that of the bytes
dropped. -/
theorem run_rxBytes_rxCheck (bs : List Byte) (s : State) (rest : List CommandWord) (opened : s.rxst = .opened)
    (bounded : s.rxb.length ≤ s.explen.val) :
    ∃ (st : Status) (seen : Bool) (rw : Option ResponseWord),
      Sys2Proof.core.run (bs.length + 1)
          { s with commands := (bs.map Instr.rxByte ++ [Instr.rxCheck]).map encode ++ rest } =
        exec .rxCheck { s with
          rxb := (s.rxb ++ bs).take s.explen.val, commands := rest, lasterr := st, errseen := seen, response := rw } := by
  induction bs generalizing s with
  | nil =>
    refine ⟨s.lasterr, s.errseen, s.response, ?_⟩
    rw [List.append_nil, List.take_of_length_le bounded]
    exact run_one_encode s rest rfl
  | cons b bs ih =>
    obtain ⟨st, seen, rw, hfirst⟩ := exec_rxByte_of_opened b
      (s := { s with commands := (bs.map Instr.rxByte ++ [Instr.rxCheck]).map encode ++ rest }) opened bounded
    obtain ⟨st', seen', rw', hrest⟩ := ih
      { s with rxb := (s.rxb ++ [b]).take s.explen.val, lasterr := st, errseen := seen, response := rw } opened
      (List.length_take_le ..)
    rw [take_take_append, ← List.append_cons] at hrest
    exact ⟨st', seen', rw', (run_succ_encode _ rfl hfirst).trans hrest⟩

/-- Settles O33: RX_BEGIN opens an empty receiver, the bytes fill it, and RX_CHECK latches what `decode` gives of them. -/
theorem receiveCommandsPerformDecode : Obligations.ReceiveCommandsPerformDecode := by
  intro e f s rest
  obtain ⟨st, seen, rw, hbytes⟩ := run_rxBytes_rxCheck f
    { s with
      rxb := [], explen := ⟨e.toNat, e.isLt⟩, rxst := .opened, valid := false, pcount := 0,
      response := some (e.setWidth 32) } rest rfl (Nat.zero_le _)
  have hrun := (run_succ_encode (i := .rxBegin e) (f.length + 1) rfl (exec_rxBegin e _)).trans hbytes
  cases hdecode : decodeFrame s.params.termCheck (f.take e.toNat) e.toNat with
  | none =>
    rw [exec_rxCheck_of_rejects hdecode] at hrun
    exact ⟨_, hrun, rfl, rfl, rfl, rfl, rfl, rfl, rfl, nofun, fun _ => ⟨rfl, rfl⟩⟩
  | some ws =>
    obtain ⟨n, p, hexec, hcount, hwords, -⟩ := exec_rxCheck_of_accepts
      (s := { s with
        rxb := f.take e.toNat, explen := ⟨e.toNat, e.isLt⟩, rxst := .opened, valid := false, pcount := 0, commands := rest,
        lasterr := st, errseen := seen, response := rw }) hdecode
    refine ⟨_, hrun.trans hexec, rfl, rfl, rfl, rfl, rfl, rfl, rfl, ?_, nofun⟩
    rintro _ ⟨⟩
    exact ⟨rfl, hcount, fun i hi => (congrArg some (hwords i hi)).trans (List.getElem?_eq_getElem hi).symm⟩

/-- Settles O27: a good answer on the state with the receiver emptied, and format A8. -/
theorem rxBeginStartsAResponse : Obligations.RxBeginStartsAResponse :=
  ⟨append_eq_or_shiftLeft 0x20, fun e s => ⟨_, exec_rxBegin e s, rfl, rfl, rfl⟩,
    onlyOperandA_of_byte (f := .rxBegin) (by simp [byteCommands]) 0⟩

/-- Settles O28: the three ways through RX_BYTE's guards, and format A8. -/
theorem rxByteAppendsAReceivedByte : Obligations.RxByteAppendsAReceivedByte :=
  ⟨append_eq_or_shiftLeft 0x21, fun _ _ => exec_rxByte_of_room, fun _ _ => rxByte_raises_seq, fun _ _ => rxByte_raises_full,
    onlyOperandA_of_byte (f := .rxByte) (by simp [byteCommands]) 0⟩

/-- Settles O30: a byte of RXB or none, whatever VALID is, and format A8. -/
theorem rxReadAnswersOneByte : Obligations.RxReadAnswersOneByte :=
  ⟨append_eq_or_shiftLeft 0x23, fun _ _ _ => exec_rxRead_of_eq_some, fun _ _ => rxRead_raises_index,
    onlyOperandA_of_byte (f := .rxRead) (by simp [byteCommands]) 0⟩

/-- Settles O31: a good answer on the state as it was, and format N. -/
theorem rxLenAnswersBothCounts : Obligations.RxLenAnswersBothCounts := by
  refine ⟨rfl, fun s => ?_, noOperands_of_plain (i := .rxLen) (by decide)⟩
  rw [← responseWord_ok_counts]
  rfl

end Sys2Proof.Machine
end

section
/-!
SUPPORT. The conversions of the field decoder (43_field.md section 1): where the two conventions of sign recovery agree, and what
a reader takes from a packed value.
-/

namespace Sys2Proof.Machine

open Sys2Proof.Claims

/-! ### Sign recovery (R150) -/

theorem signed16_twos (v : Word) : signed16 .twos v = v.toInt := by
  have := v.isLt
  rw [signed16, BitVec.toInt_eq_toNat_cond]
  split_ifs <;> omega

/-- The two boundaries lie next to each other, so one word alone falls between them. -/
theorem signed16_literal_eq_twos {v : Word} (hv : v ≠ 32768) : signed16 .literal v = signed16 .twos v := by
  have hne : v.toNat ≠ 32768 := fun h => hv (BitVec.eq_of_toNat_eq h)
  simp only [signed16]
  split_ifs <;> omega

/-- Under LITERAL no word gives -32768, which `signed16_bounds` allows. -/
theorem neg_lt_signed16_literal (v : Word) : -32767 ≤ signed16 .literal v := by
  rw [signed16]
  split <;> omega

/-- Under TWOS no word gives 32768, which `signed16_bounds` allows. -/
theorem signed16_twos_lt (v : Word) : signed16 .twos v ≤ 32767 := by
  have := v.isLt
  rw [signed16]
  split <;> omega

/-- Settles O37: both conventions by their boundary, and the three words of R150 under each. -/
theorem signRecoveryConventions : Obligations.SignRecoveryConventions := by
  refine ⟨fun _ => rfl, signed16_twos, fun _ => signed16_literal_eq_twos, rfl, rfl,
    fun v => ⟨neg_lt_signed16_literal v, (signed16_bounds .literal v).2⟩,
    fun v => ⟨(signed16_bounds .twos v).1, signed16_twos_lt v⟩, fun c => ?_⟩
  cases c <;> exact ⟨rfl, rfl, rfl⟩

/-! ### FX packing (R151, R152) -/

/-- The exponent stands above the mantissa's 20 bits. -/
theorem fx_fields (k : BitVec 4) (m : Int) :
    (fx k m).extractLsb' 20 4 = k ∧ (fx k m).extractLsb' 0 20 = twos20 m :=
  ⟨BitVec.extractLsb'_append_eq_left, BitVec.extractLsb'_append_eq_right⟩

theorem toInt_twos20 {m : Int} (hmin : -524288 ≤ m) (hmax : m ≤ 524287) : (twos20 m).toInt = m :=
  BitVec.toInt_ofInt_eq_self (by decide) hmin (Int.lt_of_le_sub_one hmax)

/-- A mantissa is a word as it stands or sign-recovered (R151). -/
theorem mantissa_bounds (conv : SignConv) (g : Bool) (v : Word) : -32768 ≤ mantissa conv g v ∧ mantissa conv g v ≤ 65535 := by
  cases g with
  | true =>
    obtain ⟨hmin, hmax⟩ := signed16_bounds conv v
    exact ⟨hmin, hmax.trans (by decide)⟩
  | false =>
    have := v.isLt
    simp only [mantissa, Bool.false_eq_true, if_false]
    omega

/-- Settles O38: the two fields do not overlap, and 20 bits hold the mantissa. -/
theorem fxPackingIsExact : Obligations.FxPackingIsExact := by
  refine ⟨fun k m hmin hmax => ?_, mantissa_bounds⟩
  obtain ⟨hexponent, hmantissa⟩ := fx_fields k m
  exact ⟨hexponent, hmantissa ▸ toInt_twos20 hmin hmax⟩

/-- A good answer with a mantissa of the block reads back as that mantissa and its exponent (R152; 30_encoding.md R63). -/
theorem answersFx_of_respond {i : Instr} {s : State} {k : BitVec 4} {conv : SignConv} {g : Bool} {v : Word}
    (h : exec i s = respond (fx k (mantissa conv g v)) s) : AnswersFx i s k (mantissa conv g v) := by
  obtain ⟨hmin, hmax⟩ := mantissa_bounds conv g v
  obtain ⟨hexponent, hmantissa⟩ := fx_fields k (mantissa conv g v)
  have hdata : ∀ start len : Nat, start + len ≤ 24 →
      (responseWord .ok (fx k (mantissa conv g v))).extractLsb' start len =
        (fx k (mantissa conv g v)).extractLsb' start len := fun _ _ => BitVec.extractLsb'_append_eq_of_add_le
  refine ⟨_, h, stField_responseWord .ok _, (hdata 20 4 (by decide)).trans hexponent, ?_⟩
  rw [hdata 0 20 (by decide), hmantissa]
  exact toInt_twos20 (by omega) (by omega)

end Sys2Proof.Machine
end

section
/-!
SUPPORT. The command words of the field decoder, as their rules write them: each operand shifted to its place (30_encoding.md R61).
-/

namespace Sys2Proof.Laws

open Sys2Proof.Claims

/-- A command word is its three fields, each shifted to its place (R60). -/
theorem append_eq_or_fields (op a : Byte) (b : BitVec 16) :
    (op ++ a ++ b : CommandWord) =
      (op ++ 0#8 ++ 0#16 : CommandWord) ||| (a.setWidth 32 <<< 16) ||| b.setWidth 32 := by
  have hshift : ∀ (x : Byte) (y : BitVec 16), (op ++ x ++ y : CommandWord) =
      (op.setWidth 32 <<< 24) ||| (x.setWidth 32 <<< 16) ||| y.setWidth 32 := fun _ _ =>
    (BitVec.setWidth_eq _).symm.trans BitVec.setWidth_append_append_eq_shiftLeft_setWidth_or
  rw [hshift a b, hshift 0#8 0#16]
  simp

/-- A field with zeros above it, widened. -/
theorem setWidth_zero_append {n k w : Nat} (x : BitVec k) : (0#n ++ x).setWidth w = x.setWidth w := by
  simp [BitVec.setWidth_append_eq_shiftLeft_setWidth_or]

/-- The B of FIELD, widened: S shifted to bit 4, K below it (R61). -/
theorem operandB_field_setWidth (i : Byte) (g : Bool) (k : BitVec 4) :
    (Instr.field i g k).operandB.setWidth 32 = ((BitVec.ofBool g).setWidth 32 <<< 4) ||| k.setWidth 32 := by
  refine BitVec.setWidth_append_eq_shiftLeft_setWidth_or.trans ?_
  rw [setWidth_zero_append]

theorem encode_field (i : Byte) (g : Bool) (k : BitVec 4) : encode (.field i g k) =
    0x31000000 ||| (i.setWidth 32 <<< 16) ||| ((BitVec.ofBool g).setWidth 32 <<< 4) ||| k.setWidth 32 :=
  calc encode (.field i g k)
    _ = 0x31000000 ||| (i.setWidth 32 <<< 16) ||| (Instr.field i g k).operandB.setWidth 32 :=
      append_eq_or_fields 0x31 i _
    _ = _ := by rw [operandB_field_setWidth, BitVec.or_assoc, BitVec.or_assoc, BitVec.or_assoc]

theorem encode_sign (v : Word) : encode (.sign v) = 0x32000000 ||| v.setWidth 32 := append_eq_or_fields 0x32 0 v

theorem encode_bal (i : Byte) (c : BitVec 2) :
    encode (.bal i c) = 0x33000000 ||| (i.setWidth 32 <<< 16) ||| c.setWidth 32 := by
  rw [← setWidth_zero_append (n := 14) c]
  exact append_eq_or_fields 0x33 i (0#14 ++ c)

theorem encode_layout (l : LayoutId) (j : Byte) :
    encode (.layout l j) = 0x34000000 ||| (l.code.setWidth 32 <<< 16) ||| j.setWidth 32 := by
  rw [← setWidth_zero_append (n := 8) j]
  exact append_eq_or_fields 0x34 l.code (0#8 ++ j)

/-! ### The words that are refused (R66) -/

theorem field_refused {a : Byte} {b : BitVec 16} (hb : b.extractLsb' 5 11 ≠ 0) : RefusedAsIllegal (0x31#8 ++ a ++ b) :=
  refusedAsIllegal_of_decode_error ((decodeCW_field a b).trans (if_neg hb))

theorem sign_refused {a : Byte} {b : BitVec 16} (ha : a ≠ 0) : RefusedAsIllegal (0x32#8 ++ a ++ b) :=
  refusedAsIllegal_of_decode_error ((decodeCW_sign a b).trans (if_neg ha))

theorem bal_refused {a : Byte} {b : BitVec 16} (hb : b.extractLsb' 2 14 ≠ 0) : RefusedAsIllegal (0x33#8 ++ a ++ b) :=
  refusedAsIllegal_of_decode_error ((decodeCW_bal a b).trans (if_neg hb))

/-- LAYOUT's refused words are R66's: case 3, or case 2 with B[15:8] not zero. -/
theorem layout_refused {a : Byte} {b : BitVec 16} (h : LayoutOutOfRange 0x34 a.toNat b.toNat ∨ 256 ≤ b.toNat) :
    RefusedAsIllegal (0x34#8 ++ a ++ b) := by
  have hfields : IllegalFields 0x34 a.toNat b.toNat := by
    obtain hrange | hb := h
    · exact .inr (.inr hrange)
    · exact .inr (.inl (by simpa [NonzeroReservedField] using hb))
  exact (exactlyTheListedWordsAreIllegal _).1 ((illegalWord_append_iff 0x34#8 a b).2 hfields)

end Sys2Proof.Laws
end

section
/-!
SUPPORT. The commands on single payload words, WORD, FIELD and BAL, behind their common gate, and SIGN (43_field.md section 2).
-/

namespace Sys2Proof.Machine

open Sys2Proof.Laws Sys2Proof.Claims

/-! ### The gate's three outcomes (R155) -/

theorem readWordAs_of_invalid {s : State} (hvalid : s.valid = false) (i : Nat) (f : Word → Data) :
    readWordAs i f s = raise .noPayload s := by
  obtain ⟨-, h⟩ | ⟨hv, -⟩ | ⟨hv, -⟩ := readWordAs_cases i f s
  · exact h
  all_goals exact absurd (hvalid.symm.trans hv) (by decide)

theorem readWordAs_of_beyond {s : State} {i : Nat} (hvalid : s.valid = true) (hi : s.pcount.val ≤ i) (f : Word → Data) :
    readWordAs i f s = raise .index s := by
  obtain ⟨hv, -⟩ | ⟨-, -, h⟩ | ⟨-, hlt, -⟩ := readWordAs_cases i f s
  · exact absurd (hvalid.symm.trans hv) (by decide)
  · exact h
  · omega

theorem readWordAs_of_readable {s : State} {i : Nat} (hvalid : s.valid = true) (hi : i < s.pcount.val) (f : Word → Data) :
    readWordAs i f s = respond (f (readPw s i)) s := by
  obtain ⟨hv, -⟩ | ⟨-, hle, -⟩ | ⟨-, -, h⟩ := readWordAs_cases i f s
  · exact absurd (hvalid.symm.trans hv) (by decide)
  · omega
  · exact h

/-! ### WORD (R156) -/

theorem exec_word_of_readable {i : Byte} {s : State} (hvalid : s.valid = true) (hi : i.toNat < s.pcount.val) :
    exec (.word i) s = .next { s with response := some ((readPw s i.toNat).setWidth 32) } := by
  rw [← responseWord_ok_raw16]
  exact readWordAs_of_readable hvalid hi raw16

/-- Settles O39: the raw word behind the gate, and format A8. -/
theorem wordAnswersARawWord : Obligations.WordAnswersARawWord :=
  ⟨append_eq_or_shiftLeft 0x30, fun _ _ => exec_word_of_readable, fun _ _ hv => readWordAs_of_invalid hv _ _,
    fun _ _ hv hi => readWordAs_of_beyond hv hi _, onlyOperandA_of_byte (f := .word) (by simp [byteCommands]) 0⟩

/-! ### FIELD and SIGN (R157, R158) -/

/-- The kind that FIELD reads its word as (R157). -/
def fxKind (g : Bool) (k : BitVec 4) : FieldKind := if g then .signed k else .unsigned k

theorem exec_field (i : Byte) (g : Bool) (k : BitVec 4) (s : State) :
    exec (.field i g k) s = readWordAs i.toNat (fieldData s.params.signConv (fxKind g k)) s := rfl

theorem fieldData_fxKind (conv : SignConv) (g : Bool) (k : BitVec 4) (v : Word) :
    fieldData conv (fxKind g k) v = fx k (mantissa conv g v) := by
  cases g <;> rfl

theorem exec_field_of_readable {i : Byte} {s : State} (g : Bool) (k : BitVec 4) (hvalid : s.valid = true)
    (hi : i.toNat < s.pcount.val) :
    exec (.field i g k) s = respond (fx k (mantissa s.params.signConv g (readPw s i.toNat))) s := by
  rw [exec_field, readWordAs_of_readable hvalid hi, fieldData_fxKind]

/-- Settles O40: the word behind the gate as an FX value, which is exact for every mantissa. -/
theorem fieldAnswersAScaledWord : Obligations.FieldAnswersAScaledWord :=
  ⟨encode_field, fun _ g k _ hv hi => answersFx_of_respond (exec_field_of_readable g k hv hi),
    fun _ _ _ _ hv => readWordAs_of_invalid hv _ _, fun _ _ _ _ hv hi => readWordAs_of_beyond hv hi _,
    fun _ _ => field_refused⟩

/-- SIGN's answer is the signed mantissa of its operand, behind no gate. -/
theorem sign_answersFx (v : Word) (s : State) : AnswersFx (.sign v) s 0 (signed16 s.params.signConv v) :=
  answersFx_of_respond (conv := s.params.signConv) (g := true) (v := v) rfl

/-- Settles O41: the answer is `signed16` of the operand, read under each convention. -/
theorem signAnswersTheRecoveredValue : Obligations.SignAnswersTheRecoveredValue := by
  refine ⟨encode_sign, fun v s hconv => ?_, fun v s hconv => ?_, fun _ _ => sign_refused⟩
  all_goals
    have h := sign_answersFx v s
    rw [hconv] at h
    exact h

/-! ### BAL (R159) -/

/-- OK with the balancing flag: bit 8+c of the word, inverted (R154). -/
theorem responseWord_ok_balance (conv : SignConv) (c : BitVec 2) (v : Word) :
    responseWord .ok (fieldData conv (.balance c) v) = if v.getLsbD (8 + c.toNat) then 0 else 1 := by
  have hword : ∀ bit : Bool, (BitVec.ofBool !bit).setWidth 32 = if bit then 0 else 1 := by decide
  exact (responseWord_ok_setWidth (by decide) _).trans (hword _)

/-- A good answer with the balancing flag of a word. -/
theorem respond_balance (conv : SignConv) (c : BitVec 2) (v : Word) (s : State) :
    respond (fieldData conv (.balance c) v) s =
      .next { s with response := some (if v.getLsbD (8 + c.toNat) then 0 else 1) } := by
  rw [respond, responseWord_ok_balance]

theorem exec_bal_of_readable {i : Byte} {s : State} (c : BitVec 2) (hvalid : s.valid = true) (hi : i.toNat < s.pcount.val) :
    exec (.bal i c) s = respond (fieldData s.params.signConv (.balance c) (readPw s i.toNat)) s :=
  readWordAs_of_readable hvalid hi _

/-- Settles O42: the flag of the word behind the gate. -/
theorem balAnswersTheBalancingFlag : Obligations.BalAnswersTheBalancingFlag :=
  ⟨encode_bal, fun _ c s hv hi => (exec_bal_of_readable c hv hi).trans (respond_balance _ c _ s),
    fun _ _ _ hv => readWordAs_of_invalid hv _ _, fun _ _ _ hv hi => readWordAs_of_beyond hv hi _,
    fun _ _ => bal_refused⟩

end Sys2Proof.Machine
end

section
/-!
SUPPORT. LAYOUT: its rows as the tables of R160 to R162 have them, its outcomes, and the generic commands it equals (43_field.md
section 3).
-/

namespace Sys2Proof.Machine

open Sys2Proof.Laws Sys2Proof.Claims

/-! ### The rows -/

/-- The field map has each FX row of R160 to R162, and the layout its word count. -/
theorem layoutRow_of_mem_fxRows {l : LayoutId} {wc w : Nat} {j : Byte} {g : Bool} {k : BitVec 4}
    (h : (l, wc, j, w, g, k) ∈ fxRows) :
    l.wordCount = wc ∧ ∃ name, layoutRow l j = some ⟨name, w, fxKind g k⟩ := by
  fin_cases h <;> exact ⟨rfl, _, rfl⟩

/-- Rows 3 to 6 of the SOC layout are the four cells' flags, all in word 6 (R162). -/
theorem layoutRow_soc_balance (c : BitVec 2) :
    ∃ name, layoutRow .soc (3 + c.setWidth 8) = some ⟨name, 6, .balance c⟩ := by
  fin_cases c <;> exact ⟨_, rfl⟩

/-- A well-formed LAYOUT names a row. -/
theorem exists_layoutRow_of_wellFormed {l : LayoutId} {j : Byte} (wf : (Instr.layout l j).WellFormed) :
    ∃ row, layoutRow l j = some row := by
  have hj : j.toNat < (layoutRows l).length := by
    rw [layoutRows_length]
    exact of_decide_eq_true wf
  exact ⟨_, List.getElem?_eq_getElem hj⟩

/-! ### The outcomes (R163) -/

/-- LAYOUT on a row it has: its two guards, then the row's field. -/
theorem exec_layout {l : LayoutId} {j : Byte} {row : LayoutRow} (hrow : layoutRow l j = some row) (s : State) :
    exec (.layout l j) s =
      if s.valid = false then raise .noPayload s
      else if s.pcount.val ≠ l.wordCount then raise .layout s
      else respond (fieldData s.params.signConv row.kind (readPw s row.word)) s := by
  simp only [exec, execLayout, hrow]

theorem exec_layout_of_payload {l : LayoutId} {j : Byte} {row : LayoutRow} {s : State} (hrow : layoutRow l j = some row)
    (hvalid : s.valid = true) (hcount : s.pcount.val = l.wordCount) :
    exec (.layout l j) s = respond (fieldData s.params.signConv row.kind (readPw s row.word)) s := by
  rw [exec_layout hrow, if_neg (by simp [hvalid]), if_neg (not_not.2 hcount)]

theorem layout_raises_noPayload {l : LayoutId} {j : Byte} {s : State} (wf : (Instr.layout l j).WellFormed)
    (hvalid : s.valid = false) : Raises (.layout l j) s .noPayload := by
  obtain ⟨row, hrow⟩ := exists_layoutRow_of_wellFormed wf
  exact (exec_layout hrow s).trans (if_pos hvalid)

theorem layout_raises_layout {l : LayoutId} {j : Byte} {s : State} (wf : (Instr.layout l j).WellFormed)
    (hvalid : s.valid = true) (hcount : s.pcount.val ≠ l.wordCount) : Raises (.layout l j) s .layout := by
  obtain ⟨row, hrow⟩ := exists_layoutRow_of_wellFormed wf
  exact (exec_layout hrow s).trans ((if_neg (by simp [hvalid])).trans (if_pos hcount))

/-- An FX row answers its word's mantissa and its exponent. -/
theorem exec_layout_of_mem_fxRows {l : LayoutId} {wc w : Nat} {j : Byte} {g : Bool} {k : BitVec 4} {s : State}
    (h : (l, wc, j, w, g, k) ∈ fxRows) (hvalid : s.valid = true) (hcount : s.pcount.val = wc) :
    exec (.layout l j) s = respond (fx k (mantissa s.params.signConv g (readPw s w))) s := by
  obtain ⟨rfl, name, hrow⟩ := layoutRow_of_mem_fxRows h
  rw [exec_layout_of_payload hrow hvalid hcount, fieldData_fxKind]

/-- A balancing row answers the flag of its cell. -/
theorem exec_layout_soc_balance (c : BitVec 2) {s : State} (hvalid : s.valid = true) (hcount : s.pcount.val = 12) :
    exec (.layout .soc (3 + c.setWidth 8)) s = respond (fieldData s.params.signConv (.balance c) (readPw s 6)) s := by
  obtain ⟨name, hrow⟩ := layoutRow_soc_balance c
  rw [exec_layout_of_payload hrow hvalid hcount]

/-- Settles O44: on a payload of the layout's count each row's word may be read, and the generic command reads it as the same
kind. -/
theorem layoutRowsEqualGenericCommands : Obligations.LayoutRowsEqualGenericCommands := by
  constructor
  · intro l wc j w g k h s hvalid hcount
    obtain ⟨rfl, name, hrow⟩ := layoutRow_of_mem_fxRows h
    have hword : w < l.wordCount := layoutRow_word_lt l j _ hrow
    have hbyte : (BitVec.ofNat 8 w).toNat = w := by
      have := s.pcount.isLt
      rw [BitVec.toNat_ofNat]
      omega
    rw [exec_layout_of_mem_fxRows h hvalid hcount, exec_field_of_readable g k hvalid (by omega), hbyte]
  · intro c s hvalid hcount
    have hword : (6 : Byte).toNat < s.pcount.val := by
      rw [hcount]
      decide
    rw [exec_layout_soc_balance c hvalid hcount, exec_bal_of_readable c hvalid hword]
    rfl

/-- Settles O43: the rows of the three maps, the two guards before them, and the words of R66. -/
theorem layoutAnswersItsFields : Obligations.LayoutAnswersItsFields := by
  refine ⟨encode_layout, ⟨rfl, rfl, rfl⟩,
    fun _ _ _ _ _ _ h _ hv hc => answersFx_of_respond (exec_layout_of_mem_fxRows h hv hc), fun c s hlt hv hc => ?_,
    fun _ _ _ => layout_raises_noPayload, fun l j s wf hv hc => layout_raises_layout wf hv ?_, fun _ _ => layout_refused⟩
  · have hcell : (BitVec.ofNat 2 c).toNat = c := Nat.mod_eq_of_lt hlt
    have hindex : BitVec.ofNat 8 (3 + c) = 3 + (BitVec.ofNat 2 c).setWidth 8 := by
      apply BitVec.eq_of_toNat_eq
      simp [hcell]
    have hflag := (exec_layout_soc_balance (BitVec.ofNat 2 c) hv hc).trans (respond_balance ..)
    rwa [← hindex, hcell] at hflag
  · cases l <;> exact hc

end Sys2Proof.Machine
end

section
/-!
SUPPORT. PLEN, and the answers of the commands it repeats (43_field.md R164).
-/

namespace Sys2Proof.Machine

open Sys2Proof.Laws

theorem exec_plen (s : State) : exec .plen s = respond (payloadImage s.valid s.pcount.val) s := rfl

/-- With no payload PLEN answers 0. -/
theorem exec_plen_of_no_payload {s : State} (hvalid : s.valid = false) (hcount : s.pcount.val = 0) :
    exec .plen s = .next { s with response := some 0 } := by
  have hword : responseWord .ok (payloadImage false 0) = 0 := by decide
  have hanswer : respond (payloadImage false 0) s = .next { s with response := some 0 } := by rw [respond, hword]
  rwa [← hvalid, ← hcount] at hanswer

/-- RX_CHECK answers the image of the payload it leaves, so PLEN finds its own answer there. -/
theorem exec_plen_after_rxCheck {s t : State} (h : exec .rxCheck s = .next t) : exec .plen t = .next t := by
  rw [exec_rxCheck, respond_eq_next_iff] at h
  subst h
  rfl

theorem exec_plen_after_rxBegin {e : Byte} {s t : State} (h : exec (.rxBegin e) s = .next t) :
    exec .plen t = .next { t with response := some 0 } := by
  rw [exec_rxBegin, Host.Outcome.next.injEq] at h
  subst h
  exact exec_plen_of_no_payload rfl rfl

/-- Settles O45: the image of VALID and PCOUNT, what RX_CHECK, RX_BEGIN and power-on leave in them, and format N. -/
theorem plenAnswersThePayloadImage : Obligations.PlenAnswersThePayloadImage := by
  refine ⟨rfl, fun s => ?_, fun _ _ => exec_plen_after_rxCheck, fun _ _ _ => exec_plen_after_rxBegin,
    fun _ => exec_plen_of_no_payload rfl rfl, noOperands_of_plain (i := .plen) (by decide)⟩
  rw [← responseWord_ok_payloadImage]
  rfl

end Sys2Proof.Machine
end

section
/-!
SUPPORT. The system commands (44_system.md), and the fields of the response that carries the STATUS image (10_state.md R32).
-/

namespace Sys2Proof.Machine

open Sys2Proof.Laws

/-! ### NOP (R190) -/

theorem exec_nop (s : State) : exec .nop s = .next { s with response := some 0 } := rfl

/-- Settles O46: a good answer on the state as it was, and format N. -/
theorem nopDoesNothing : Obligations.NopDoesNothing :=
  ⟨rfl, exec_nop, noOperands_of_plain (i := .nop) (by decide)⟩

/-! ### STATUS (R191) -/

/-- The answer of STATUS: OK with the STATUS image. -/
def statusWord (s : State) : ResponseWord := responseWord .ok (statusImage s)

theorem exec_status (s : State) : exec .status s = .next { s with response := some (statusWord s) } := rfl

/-- The answer of STATUS as one row of fields: the zero ST (30_encoding.md R63) and the reserved bits of R32 are its top 22
bits. -/
theorem statusWord_eq_append (s : State) :
    statusWord s =
      0#22 ++ signConvBit s.params.signConv ++ BitVec.ofBool s.errseen ++ s.lasterr.nibble ++ s.rxst.code ++
        s.txst.code ++ BitVec.ofBool s.valid :=
  (append_append_append 0#8 _ s.txst.code _).trans <|
    congrArg (fun w : BitVec 29 => w ++ s.txst.code ++ BitVec.ofBool s.valid) <|
      (append_append_append 0#8 _ s.lasterr.nibble _).trans <|
        congrArg (fun w : BitVec 24 => w ++ s.lasterr.nibble ++ s.rxst.code) (append_append_append 0#8 0#14 _ _)

/-- The one-bit fields, at the places R32 gives them. -/
theorem statusWord_bits (s : State) :
    (statusWord s).getLsbD 0 = s.valid ∧ (statusWord s).getLsbD 3 = s.rxst.code.getLsbD 0 ∧
      (statusWord s).getLsbD 8 = s.errseen ∧ (statusWord s).getLsbD 9 = (signConvBit s.params.signConv).getLsbD 0 := by
  simp only [statusWord_eq_append, BitVec.getLsbD_append, BitVec.getLsbD_ofBool, Nat.reduceLT, Nat.reduceSub, if_true,
    if_false, decide_true, Bool.true_and, and_self]

/-- The wider fields, at the places R32 gives them. -/
theorem statusWord_fields (s : State) :
    (statusWord s).extractLsb' 1 2 = s.txst.code ∧ (statusWord s).extractLsb' 4 4 = s.lasterr.nibble ∧
      (statusWord s).extractLsb' 10 22 = 0 := by
  simp (disch := omega) only [statusWord_eq_append, BitVec.extractLsb'_append_eq_of_le, Nat.reduceSub]
  exact ⟨BitVec.extractLsb'_append_eq_right, BitVec.extractLsb'_append_eq_right, BitVec.extractLsb'_eq_self⟩

/-- Right after reset SIGNCONV alone may be set (R32, R35). -/
theorem statusWord_resetWith (p : Params) :
    statusWord (State.resetWith p) = 0#22 ++ signConvBit p.signConv ++ 0#9 := by
  simp only [statusWord_eq_append, resetWith_params, resetWith_errseen, resetWith_lasterr, resetWith_rxst, resetWith_txst,
    resetWith_valid]
  cases p.signConv <;> rfl

/-- Settles O47: each field of the answer is a component's code, compared with R32's values constructor by constructor. -/
theorem statusMirrorsTheComponents : Obligations.StatusMirrorsTheComponents := by
  refine ⟨rfl, fun s => ?_, fun p => ?_, noOperands_of_plain (i := .status) (by decide)⟩
  · obtain ⟨hvalid, hrxst, herrseen, hconv⟩ := statusWord_bits s
    obtain ⟨htxst, hlasterr, hreserved⟩ := statusWord_fields s
    refine ⟨statusWord s, exec_status s, hvalid, ?_, ?_, ?_, herrseen, ?_, hreserved⟩
    · rw [htxst]
      cases s.txst <;> rfl
    · rw [hrxst]
      cases s.rxst <;> rfl
    · rw [hlasterr]
      cases s.lasterr <;> rfl
    · rw [hconv]
      cases s.params.signConv <;> rfl
  · rw [exec_status, statusWord_resetWith]
    cases p.signConv <;> rfl

/-! ### SRST (R192) -/

/-- SRST leaves the reset state of the same parameters under the words still on the port. -/
theorem exec_srst (s : State) :
    exec .srst s = .next { State.resetWith s.params with commands := s.commands, response := some 0 } := rfl

/-- Settles O48: the reset state with the answer 0, and format N. -/
theorem srstLeavesThePowerOnState : Obligations.SrstLeavesThePowerOnState :=
  ⟨rfl, exec_srst, noOperands_of_plain (i := .srst) (by decide)⟩

end Sys2Proof.Machine
end

section
/-!
SUPPORT. The status of each command, computed as R200 and R204 (60_exceptions.md) list the causes.
-/

namespace Sys2Proof.Machine

open Sys2Proof.Laws Sys2Proof.Claims

/-- The result is a next state, with a response whose ST is this number (30_encoding.md R63). -/
def AnswersStatus (r : Result) (n : Nat) : Prop :=
  ∃ (t : State) (rw : ResponseWord), r = .next t ∧ t.response = some rw ∧ (rw.extractLsb' 24 8).toNat = n

theorem respond_answersStatus (d : Data) (s : State) : AnswersStatus (respond d s) 0 :=
  ⟨_, _, rfl, rfl, congrArg BitVec.toNat (stField_responseWord .ok d)⟩

theorem raise_answersStatus (st : Status) (s : State) : AnswersStatus (raise st s) st.code.toNat :=
  ⟨_, _, rfl, rfl, congrArg BitVec.toNat (stField_responseWord st 0)⟩

/-- A cause that is checked first decides the status, if it applies. -/
theorem ite_answersStatus {p q : Prop} [Decidable p] [Decidable q] {r₁ r₂ : Result} {n₁ n₂ : Nat} (hpq : p ↔ q)
    (h₁ : AnswersStatus r₁ n₁) (h₂ : AnswersStatus r₂ n₂) :
    AnswersStatus (if p then r₁ else r₂) (if q then n₁ else n₂) := by
  by_cases hp : p
  · rwa [if_pos hp, if_pos (hpq.1 hp)]
  · rwa [if_neg hp, if_neg (mt hpq.2 hp)]

/-- TX_READ and RX_READ: INDEX at and beyond the readable length. -/
theorem readByte_answersStatus (bytes : List Byte) (i : Nat) (s : State) :
    AnswersStatus (bytes[i]?.elim (raise .index s) fun b => respond (b.setWidth 24) s)
      (if bytes.length ≤ i then 5 else 0) := by
  by_cases hi : bytes.length ≤ i
  · rw [List.getElem?_eq_none hi, if_pos hi]
    exact raise_answersStatus .index s
  · rw [List.getElem?_eq_getElem (not_le.1 hi), if_neg hi]
    exact respond_answersStatus _ s

/-- WORD, FIELD and BAL: NOPAYLOAD, then INDEX. -/
theorem readWordAs_answersStatus (i : Nat) (f : Word → Data) (s : State) :
    AnswersStatus (readWordAs i f s) (if s.valid = false then 4 else if s.pcount.val ≤ i then 5 else 0) := by
  obtain ⟨hvalid, h⟩ | ⟨hvalid, hi, h⟩ | ⟨hvalid, hi, h⟩ := readWordAs_cases i f s
  · rw [h, if_pos hvalid]
    exact raise_answersStatus .noPayload s
  · rw [h, if_neg (by simp [hvalid]), if_pos hi]
    exact raise_answersStatus .index s
  · rw [h, if_neg (by simp [hvalid]), if_neg (not_le.2 hi)]
    exact respond_answersStatus _ s

/-- A well-formed command's status is the first cause of its row of R204 that applies. -/
theorem exec_answersStatus {i : Instr} (wf : i.WellFormed) (s : State) : AnswersStatus (exec i s) (statusOf s i) := by
  cases i with
  | nop | crcInit | crcByte | crcRead | txBegin | txLen | rxBegin | rxCheck | rxLen | sign | plen | status | srst =>
    exact respond_answersStatus _ _
  | txByte b =>
    have hfull : s.txlen ≥ s.params.txCap - 4 ↔ s.params.txCap ≤ s.txb.length + 4 := by rw [State.txlen]; omega
    exact ite_answersStatus .rfl (raise_answersStatus .seq s)
      (ite_answersStatus hfull (raise_answersStatus .full s) (respond_answersStatus _ _))
  | txEnd => exact ite_answersStatus .rfl (raise_answersStatus .seq s) (respond_answersStatus _ _)
  | rxByte b =>
    exact ite_answersStatus .rfl (raise_answersStatus .seq s)
      (ite_answersStatus .rfl (raise_answersStatus .full s) (respond_answersStatus _ _))
  | txRead i =>
    rw [exec, execTxRead_eq_elim]
    exact readByte_answersStatus s.txb i.toNat s
  | rxRead i =>
    rw [exec, execRxRead_eq_elim]
    exact readByte_answersStatus s.rxb i.toNat s
  | word i | field i | bal i => exact readWordAs_answersStatus i.toNat _ s
  | layout l j =>
    obtain ⟨row, hrow⟩ := exists_layoutRow_of_wellFormed wf
    rw [exec_layout hrow]
    exact ite_answersStatus .rfl (raise_answersStatus .noPayload s)
      (ite_answersStatus .rfl (raise_answersStatus .layout s) (respond_answersStatus _ s))

/-- No cause of R200 looks at the port. -/
theorem statusOf_with_commands (s : State) (rest : List CommandWord) (i : Instr) :
    statusOf { s with commands := rest } i = statusOf s i := by
  cases i <;> rfl

/-- Settles O51: an ILLEGAL word is refused by the decoder, before any state is looked at; every other word is a well-formed
command's. -/
theorem everyStatusIsTheFirstCause : Obligations.EveryStatusIsTheFirstCause := by
  intro s cw rest hport
  cases verdict cw with
  | refused why decodes listed =>
    obtain ⟨t, rw, hraise, hresponse, hst⟩ := raise_answersStatus .illegal { s with commands := rest }
    exact ⟨t, rw, (step_of_decode_error hport decodes).trans hraise, hresponse, fun _ => hst, absurd listed⟩
  | accepted i decodes notListed wf =>
    obtain ⟨t, rw, hexec, hresponse, hst⟩ := exec_answersStatus wf { s with commands := rest }
    exact ⟨t, rw, (step_of_decode_ok hport decodes).trans hexec, hresponse, fun listed => absurd listed notListed,
      fun _ => ⟨i, decodes, hst.trans (statusOf_with_commands s rest i)⟩⟩

end Sys2Proof.Machine
end

section
/-!
SUPPORT. What a step on a word of the port leaves: the command's effect with a good answer, or R201's effect of a failure
(60_exceptions.md R201, R202, R205).
-/

namespace Sys2Proof.Machine

open Sys2Proof.Laws

/-- The states a step on the word `cw` can leave, with the words `rest` behind it. -/
inductive WordLeaves (s : State) (cw : CommandWord) (rest : List CommandWord) : State → Prop where
  | good {i : Instr} {d : Data} {s' : State} (decodes : decodeCW cw = .ok i)
      (answers : GoodAnswer i { s with commands := rest } d s') :
      WordLeaves s cw rest { s' with response := some (responseWord .ok d) }
  | failed {st : Status} (notOk : st ≠ .ok) :
      WordLeaves s cw rest
        { s with commands := rest, lasterr := st, errseen := true, response := some (responseWord st 0) }

/-- Everything a step on a word can do. -/
theorem step_wordLeaves {s t : State} {cw : CommandWord} {rest : List CommandWord} (hport : s.commands = cw :: rest)
    (h : step s = .next t) : WordLeaves s cw rest t := by
  cases hdecode : decodeCW cw with
  | error why =>
    rw [step_of_decode_error hport hdecode, raise_eq_next_iff] at h
    subst h
    exact .failed (by decide)
  | ok i =>
    rw [step_of_decode_ok hport hdecode] at h
    obtain ⟨d, s', good⟩ | ⟨st, notOk, hraise⟩ := exec_cases i { s with commands := rest }
    · rw [good.answer, respond_eq_next_iff] at h
      subst h
      exact .good hdecode good
    · rw [hraise, raise_eq_next_iff] at h
      subst h
      exact .failed notOk

/-- The word is taken from the port whether its command succeeds or not. -/
theorem step_takes_word {s t : State} {cw : CommandWord} {rest : List CommandWord} (hport : s.commands = cw :: rest)
    (h : step s = .next t) : t.commands = rest := by
  cases step_wordLeaves hport h with
  | good _ answers => exact answers.commands
  | failed => rfl

/-- The response of a good answer has ST = 0. -/
theorem responseWord_ok_st (d : Data) : (responseWord .ok d).extractLsb' 24 8 = 0 := stField_responseWord .ok d

/-- SRST has one word (30_encoding.md R67). -/
theorem decodeCW_eq_srst_iff (cw : CommandWord) : decodeCW cw = .ok .srst ↔ cw = 0xFF000000 := by
  constructor
  · intro h
    obtain ⟨-, hencode⟩ := encodeOfDecodeIsTheWord cw .srst h
    exact hencode.symm
  · rintro rfl
    exact decodeCW_encode (i := .srst) rfl

/-- Settles O5: the equation of `step` for a word that decodes. -/
theorem stepRunsTheDecodedCommand : Obligations.StepRunsTheDecodedCommand := fun _ _ _ _ => step_of_decode_ok

/-- Settles O7: every word has a status, so its step has a next state with a response. -/
theorem everyStepCompletes : Obligations.EveryStepCompletes := by
  refine ⟨fun s cw rest hport => ?_, fun _ => step_of_commands_nil⟩
  obtain ⟨t, rw, hstep, hresponse, -⟩ := everyStatusIsTheFirstCause s cw rest hport
  exact ⟨t, rw, hstep, step_takes_word hport hstep, hresponse⟩

/-- Settles O49: ST is not 0, so the step is none of the good ones. -/
theorem failuresChangeOnlyTheErrorState : Obligations.FailuresChangeOnlyTheErrorState := by
  intro s t cw rest rw hport hstep hresponse hst
  cases step_wordLeaves hport hstep with
  | @good i d =>
    obtain rfl : responseWord .ok d = rw := Option.some.inj hresponse
    exact absurd (responseWord_ok_st d) hst
  | @failed st =>
    obtain rfl : responseWord st 0 = rw := Option.some.inj hresponse
    exact ⟨dataField_responseWord st 0, st, stField_responseWord st 0, rfl⟩

/-- Settles O50: ST is 0, so a command has been performed; it left the error state, or it was SRST and reset the block. -/
theorem successesKeepTheErrorState : Obligations.SuccessesKeepTheErrorState := by
  intro s t cw rest rw hport hstep hresponse hst
  cases step_wordLeaves hport hstep with
  | @good i d s' decodes answers =>
    have hsrst : i = .srst ↔ cw = 0xFF000000 := by rw [← decodeCW_eq_srst_iff, decodes, Except.ok.injEq]
    refine ⟨fun hcw => answers.errorState (mt hsrst.1 hcw), fun hcw => ?_⟩
    obtain rfl := answers.srst (hsrst.2 hcw)
    exact ⟨rfl, rfl⟩
  | failed notOk =>
    obtain rfl := Option.some.inj hresponse
    exact absurd hst (responseWord_st_ne_zero notOk 0)

end Sys2Proof.Machine
end

section
/-!
SUPPORT. The commands right after reset (70_reset_and_hazards.md R231): neither buffer is open, and there is no payload.
-/

namespace Sys2Proof.Machine

open Sys2Proof.Claims

/-- R123 accepts no frame of fewer than 7 bytes. -/
theorem not_acceptableFrame_of_short {s : State} (short : s.rxb.length < 7) : ¬ AcceptableFrame s := by
  rintro ⟨-, hlong, -⟩
  omega

/-- RX_CHECK on a short frame (R234) clears VALID and PCOUNT, which is no change where there is no payload. -/
theorem exec_rxCheck_of_short {s : State} (short : s.rxb.length < 7) (hvalid : s.valid = false) (hcount : s.pcount = 0) :
    exec .rxCheck s = .next { s with response := some 0 } := by
  have rejects := decodeFrame_eq_none_of_not_acceptable (not_acceptableFrame_of_short short)
  rw [exec_rxCheck_of_rejects rejects, ← hvalid, ← hcount]

theorem word_raises_noPayload (i : Byte) {s : State} (hvalid : s.valid = false) : Raises (.word i) s .noPayload :=
  readWordAs_of_invalid hvalid _ _

theorem field_raises_noPayload (i : Byte) (g : Bool) (k : BitVec 4) {s : State} (hvalid : s.valid = false) :
    Raises (.field i g k) s .noPayload := readWordAs_of_invalid hvalid _ _

theorem bal_raises_noPayload (i : Byte) (c : BitVec 2) {s : State} (hvalid : s.valid = false) :
    Raises (.bal i c) s .noPayload := readWordAs_of_invalid hvalid _ _

/-- Settles O13: each command's outcome for an unopened buffer, an empty one or no payload, which the reset state meets. -/
theorem commandsRightAfterReset : Obligations.CommandsRightAfterReset := by
  intro p b s
  have notSending : s.txst ≠ .opened := by simp [s]
  have notReceiving : s.rxst ≠ .opened := by simp [s]
  have short : s.rxb.length < 7 := by simp [s]
  have hvalid : s.valid = false := resetWith_valid p
  have hcount : s.pcount = 0 := resetWith_pcount p
  exact ⟨txByte_raises_seq notSending, txEnd_raises_seq notSending, rxByte_raises_seq notReceiving,
    exec_rxCheck_of_short short hvalid hcount, fun i => word_raises_noPayload i hvalid,
    fun i g k => field_raises_noPayload i g k hvalid, fun i c => bal_raises_noPayload i c hvalid,
    fun _ _ wf => layout_raises_noPayload wf hvalid⟩

end Sys2Proof.Machine
end
